-- ==== Sys2Proof/Word.lean ====
section
/-!
DEFINITION. The plain words the MC3206 handles: bytes, 16-bit words, 48-bit hardware addresses.
-/

namespace Sys2Proof

/-- One byte of a frame or message. -/
abbrev Byte := BitVec 8

/-- One 16-bit word of the management port and of the configuration image. -/
abbrev Word := BitVec 16

/-- A 48-bit hardware address; the byte sent first is the most significant. -/
abbrev Addr := BitVec 48

/-- The configuration image: 80 words of 16 bits (10.4). -/
abbrev Image := Vector Word 80

end Sys2Proof
end

