-- ==== Sys2Proof/Syntax.lean ====
section
/-!
DEFINITION. The commands: one constructor for each row of spec/opcode_table.json, in the table's
order, with the operands its rule names. The part fetches no program: a command is an event that
reaches it from outside (a pin edge, a frame, a completion), the expiry of one of its timers, or a
transaction of the management port.
-/

namespace Sys2Proof

/-- The two link speeds of a seat PHY (7.1). -/
inductive Speed
  | mb10
  | mb100
deriving DecidableEq, Repr

/-- The commands of the MC3206, one per row of the table of operations and events. -/
inductive Instr
  /-- POWER_UP (R162): the supply rises from absent. -/
  | powerUp
  /-- SUPPLY_DIP (R162): SUPPLY_OK falls while the part is powered. -/
  | supplyDip
  /-- RESET_PIN (R162): RESET_N is asserted. -/
  | resetPin
  /-- RESET_RELEASE (R162): SUPPLY_OK is high and RESET_N is released. -/
  | resetRelease
  /-- START_DELAY_EXPIRY (R163). -/
  | startDelayExpiry
  /-- LOAD_COMPLETION (R163): the read of the configuration memory ends, with the 80 words read, or
  `none` where the memory gave no answer. -/
  | loadCompletion (image : Option Image)
  /-- HOLD_ENTRY (R166): the HOLD input is asserted. -/
  | holdEntry
  /-- HOLD_TIMER_EXPIRY (R166). -/
  | holdTimerExpiry
  /-- HOLD_EXIT (R167): the HOLD input is released. -/
  | holdExit
  /-- EXIT_SETTLE_WINDOW_EXPIRY (R137). -/
  | exitSettleWindowExpiry
  /-- CARRIER_RISE (R8): carrier present rises. -/
  | carrierRise
  /-- CARRIER_FALL (R8): carrier present falls. -/
  | carrierFall
  /-- GAP_TIMER_EXPIRY (R8). -/
  | gapTimerExpiry
  /-- STUCK_LINE_TIMER_EXPIRY (R9). -/
  | stuckLineTimerExpiry
  /-- LINE_FRAME_ARRIVAL (R2): the bytes the receiver collected, header first, check last. -/
  | lineFrameArrival (bytes : List Byte)
  /-- COLLISION (R14): the collision indication. -/
  | collision
  /-- ATTEMPT_COMPLETION (R12): the last check byte has been sent. -/
  | attemptCompletion
  /-- BACKOFF_TIMER_EXPIRY (R16). -/
  | backoffTimerExpiry
  /-- PEER_EXPIRY (R29): the timer of the named station's peer entry expires. -/
  | peerExpiry (station : Nat)
  /-- OWN_CYCLE_EXPIRY (R30). -/
  | ownCycleExpiry
  /-- SEAT_FRAME_ARRIVAL (R124): a complete frame, destination address first, FCS last. -/
  | seatFrameArrival (port : Fin 32) (bytes : List Byte)
  /-- PRESENCE_SCAN (R122): every port takes one reading. -/
  | presenceScan
  /-- FAULT_WINDOW_EXPIRY (R130). -/
  | faultWindowExpiry (port : Fin 32)
  /-- QUIET_TIMER_EXPIRY (R131). -/
  | quietTimerExpiry (port : Fin 32)
  /-- PAUSE_REFRESH_EXPIRY (R128). -/
  | pauseRefreshExpiry (port : Fin 32)
  /-- RECEIVED_PAUSE_EXPIRY (R129). -/
  | receivedPauseExpiry (port : Fin 32)
  /-- SEAT_DELIVERY_COMPLETION (R134). -/
  | seatDeliveryCompletion (port : Fin 32)
  /-- SEAT_PAUSE_SEND_COMPLETION (R128). -/
  | seatPauseSendCompletion (port : Fin 32)
  /-- SEAT_LINK_INDICATION_FALL (R134). -/
  | seatLinkIndicationFall (port : Fin 32)
  /-- SEAT_LINK_INDICATION_RISE (R133), with the speed at which the PHY's link came up. -/
  | seatLinkIndicationRise (port : Fin 32) (speed : Speed)
  /-- RADIO_MESSAGE_ARRIVAL (R140): a complete message, header first, check last. -/
  | radioMessageArrival (radio : Fin 6) (bytes : List Byte)
  /-- LIVENESS_EXPIRY (R143). -/
  | livenessExpiry (radio : Fin 6)
  /-- LOSS_OF_LINK_SIGNAL (R143). -/
  | lossOfLinkSignal (radio : Fin 6)
  /-- RADIO_MESSAGE_COMPLETION (R150). -/
  | radioMessageCompletion (radio : Fin 6)
  /-- HOLD_OFF_EXPIRY (R72) of a client entry. -/
  | holdOffExpiry (entry : Fin 256)
  /-- DRAIN_EXPIRY (R63) of a client entry. -/
  | drainExpiry (entry : Fin 256)
  /-- IDLE_EXPIRY (R65) of a client entry. -/
  | idleExpiry (entry : Fin 256)
  /-- TOMBSTONE_EXPIRY (R84) of a client entry. -/
  | tombstoneExpiry (entry : Fin 256)
  /-- TRANSACTION_ABANDONED (R168): select is released before the last operand word. -/
  | transactionAbandoned
  /-- UNKNOWN_COMMAND (R168): a command word whose code is in no row of the command list. -/
  | unknownCommand (code : Byte)
  /-- READ_STATUS (R169). -/
  | readStatus
  /-- READ_COUNTER (R172). -/
  | readCounter (n : Word)
  /-- CLEAR_COUNTERS (R172). -/
  | clearCounters
  /-- READ_CLIENT (R169). -/
  | readClient (index : Word)
  /-- READ_PEER (R24). -/
  | readPeer (position : Word)
  /-- PEEK_NOTICE (R171). -/
  | peekNotice
  /-- POP_NOTICE (R171). -/
  | popNotice
  /-- PROMOTE (R68). -/
  | promote (index tenancy cls : Word)
  /-- EVICT (R67). -/
  | evict (index tenancy : Word)
  /-- READ_ALERT (R174). -/
  | readAlert
  /-- ACK_ALERT (R175). -/
  | ackAlert (source count : Word)
  /-- MASK_SET (R174). -/
  | maskSet (sources : Word)
  /-- MASK_CLEAR (R174). -/
  | maskClear (sources : Word)
  /-- READ_RESET_CAUSE (R162). -/
  | readResetCause
  /-- LOAD_IMAGE_WORD (R165). -/
  | loadImageWord (n value : Word)
  /-- START (R165). -/
  | start
  /-- RESTART (R162): the command. -/
  | restart
  /-- RESTART_RESET (R162): the RESTART transaction ends and the reset takes effect. -/
  | restartReset
deriving DecidableEq, Repr

end Sys2Proof
end

