-- ==== Sys2Proof/Decode.lean ====
section
/-!
DEFINITION. The command a word of the opcode table's bits spells. spec/opcode_table.json gives no row
any bits ("fields" is empty in all 58 rows and no row has "fixed"), so no word spells a command.
-/

namespace Sys2Proof

/-- The command that the `nbits` bits of `w` spell by the table's bits: none, since the table gives
no row bits. -/
def decodeTableWord (_nbits _w : Nat) : Option Instr := none

end Sys2Proof
end

