-- ==== Sys2Proof/Config.lean ====
section
/-!
DEFINITION. What is fixed for the part: its sizes, its fixed periods, and the free values that the
manual leaves open.

TIME. One tick is 80 ns, the time of one byte on the carriage line (Chapter 1). Every period the
manual gives is a whole number of ticks (log entry 2).
-/

namespace Sys2Proof.Config

/-- Ticks in `n` microseconds, for an even `n` (the manual's own: 2 and 10). -/
def microTicks (n : Nat) : Nat := n * 25 / 2

/-- Ticks in `n` milliseconds. -/
def msTicks (n : Nat) : Nat := n * 12500

/-- Ticks in `n` seconds. -/
def secTicks (n : Nat) : Nat := n * 12500000

/-- The gap: 2 µs of absent carrier (R8). -/
def gapTicks : Nat := microTicks 2

/-- One backoff slot: 10 µs (R14). -/
def slotTicks : Nat := microTicks 10

/-- The stuck-line time: 50 ms (R9). -/
def stuckTicks : Nat := msTicks 50

/-- The start delay: 50 ms (R162). -/
def startDelayTicks : Nat := msTicks 50

/-- The drain of a LEAVING entry: 200 ms (R61). -/
def drainTicks : Nat := msTicks 200

/-- The flap window: 10 s (R85). -/
def flapTicks : Nat := secTicks 10

/-- The presence scan's interval: 20 ms (R122). -/
def scanTicks : Nat := msTicks 20

/-- The fault window: 1 s (R130). -/
def faultTicks : Nat := secTicks 1

/-- The quarantine: 10 s (R131). -/
def quietTicks : Nat := secTicks 10

/-- The pause refresh: 200 ms (R127, R128). -/
def refreshTicks : Nat := msTicks 200

/-- The liveness limit: 500 ms (R141, R142). -/
def livenessTicks : Nat := msTicks 500

/-- The exit settle window: 1 s (R167). -/
def settleTicks : Nat := secTicks 1

/-- The idle age holds at 3600 s (R60). -/
def idleCapSeconds : Nat := 3600

/-- Capacity of the control queue (R17). -/
def controlQueueCap : Nat := 8

/-- Capacity of the peer table (R24). -/
def peerCap : Nat := 31

/-- Capacity of the notice queue (R170). -/
def noticeCap : Nat := 32

/-- Capacity of a link's pending DROP list (R151). -/
def dropCap : Nat := 8

/-- Packet memory: 2048 blocks (R90). -/
def memoryBlocks : Nat := 2048

/-- The depth of the UPLINK pool after every kind of reset (R90). -/
def resetDepth : Nat := 1280

/-- The attempt count at which a frame is discarded (R14, R15). -/
def attemptLimit : Nat := 12

/-- Bad frames in one fault window that send a port QUIET (R130). -/
def badLimit : Nat := 32

/-- Unadmitted frames in one fault window that send a port QUIET (R130). -/
def unadmittedLimit : Nat := 16

/-- Reclaims in one flap window that put an entry in flap hold (R85). -/
def flapLimit : Nat := 3

/-- The load level from which a radio is saturated (R149). -/
def saturation : Nat := 12

/-- FREE VALUE (log entry 3). The raw random number behind the n-th backoff draw: R14 has k drawn at
random and names no value, so nothing is known of it; the draw uses it modulo 2^m. -/
opaque backoffDraw : Nat → Nat

end Sys2Proof.Config
end

