-- ==== Sys2Proof/Machine/Counters.lean ====
section
/-!
DEFINITION. The 118 counters by name, numbered as R172 numbers them, and the 12 alert sources (11.4).
-/

namespace Sys2Proof.Machine

/-- A counter's number (R172). -/
abbrev Counter := Fin 118

namespace Ctr

/-- Counter 0, line interface (R22). -/
def LINE_RX_FRAGMENT : Counter := 0

/-- Counter 1, line interface (R22). -/
def LINE_RX_BAD_CHECK : Counter := 1

/-- Counter 2, line interface (R22). -/
def LINE_RX_BAD_LENGTH : Counter := 2

/-- Counter 3, line interface (R22). -/
def LINE_RX_FRAMES : Counter := 3

/-- Counter 4, line interface (R22). -/
def LINE_RX_BAD_ORIGIN : Counter := 4

/-- Counter 5, line interface (R22). -/
def LINE_RX_OWN_ORIGIN : Counter := 5

/-- Counter 6, line interface (R22). -/
def LINE_RX_BAD_KIND : Counter := 6

/-- Counter 7, line interface (R22). -/
def LINE_RX_BAD_BODY : Counter := 7

/-- Counter 8, line interface (R22). -/
def LINE_TX_PASSENGER : Counter := 8

/-- Counter 9, line interface (R22). -/
def LINE_TX_CONTROL : Counter := 9

/-- Counter 10, line interface (R22). -/
def LINE_TX_COLLISIONS : Counter := 10

/-- Counter 11, line interface (R22). -/
def LINE_TX_DISCARDED : Counter := 11

/-- Counter 12, line interface (R22). -/
def LINE_CONTROL_LOST : Counter := 12

/-- Counter 13, line interface (R22). -/
def LINE_CONTROL_DROPPED : Counter := 13

/-- Counter 14, line interface (R22). -/
def LINE_TALLY_MISSED : Counter := 14

/-- Counter 15, line interface (R22). -/
def LINE_HOLD_DISCARD : Counter := 15

/-- Counter 16, line interface (R22). -/
def LINE_STUCK_EPISODES : Counter := 16

/-- Counter 17, tally engine (2.9). -/
def TALLY_RX_ACCEPTED : Counter := 17

/-- Counter 18, tally engine (2.9). -/
def TALLY_RX_REPEAT : Counter := 18

/-- Counter 19, tally engine (2.9). -/
def TALLY_RX_NO_ROOM : Counter := 19

/-- Counter 20, tally engine (2.9). -/
def TALLY_PEER_JOINS : Counter := 20

/-- Counter 21, tally engine (2.9). -/
def TALLY_PEER_EXPIRIES : Counter := 21

/-- Counter 22, tally engine (2.9). -/
def TALLY_POSTED : Counter := 22

/-- Counter 23, tally engine (2.9). -/
def CONFLICT_ENTRIES : Counter := 23

/-- Counter 24, client table (3.12). -/
def CLIENT_ADMITTED : Counter := 24

/-- Counter 25, client table (3.12). -/
def CLIENT_NO_ROOM : Counter := 25

/-- Counter 26, client table (3.12). -/
def CLIENT_LIMIT_REFUSED : Counter := 26

/-- Counter 27, client table (3.12). -/
def CLIENT_RX_BARRED : Counter := 27

/-- Counter 28, client table (3.12). -/
def CLIENT_MOVES : Counter := 28

/-- Counter 29, client table (3.12). -/
def CLIENT_LEAVING : Counter := 29

/-- Counter 30, client table (3.12). -/
def CLIENT_LEAVE_STRAY : Counter := 30

/-- Counter 31, client table (3.12). -/
def CLIENT_RETURNS : Counter := 31

/-- Counter 32, client table (3.12). -/
def CLIENT_LEFT_LEAVE : Counter := 32

/-- Counter 33, client table (3.12). -/
def CLIENT_LEFT_DRAIN : Counter := 33

/-- Counter 34, client table (3.12). -/
def CLIENT_IDLE_FREED : Counter := 34

/-- Counter 35, client table (3.12). -/
def CLIENT_EVICTED : Counter := 35

/-- Counter 36, client table (3.12). -/
def CLIENT_PROMOTED : Counter := 36

/-- Counter 37, client table (3.12). -/
def CLIENT_LEFT_HOLD : Counter := 37

/-- Counter 38, client table (3.12). -/
def CLIENT_QUEUE_DISCARD : Counter := 38

/-- Counter 39, claim protocol (4.8). -/
def CLAIM_POSTED : Counter := 39

/-- Counter 40, claim protocol (4.8). -/
def CLAIM_RX : Counter := 40

/-- Counter 41, claim protocol (4.8). -/
def CLAIM_RX_IGNORED : Counter := 41

/-- Counter 42, claim protocol (4.8). -/
def CLAIM_GIVEN_UP : Counter := 42

/-- Counter 43, claim protocol (4.8). -/
def CLAIM_COUNTER : Counter := 43

/-- Counter 44, claim protocol (4.8). -/
def CLAIM_COUNTER_SUPPRESSED : Counter := 44

/-- Counter 45, claim protocol (4.8). -/
def CLAIM_HOLDOFF_LOCAL : Counter := 45

/-- Counter 46, claim protocol (4.8). -/
def RELEASE_POSTED : Counter := 46

/-- Counter 47, claim protocol (4.8). -/
def RELEASE_RX_MATCHED : Counter := 47

/-- Counter 48, claim protocol (4.8). -/
def RELEASE_RX_IGNORED : Counter := 48

/-- Counter 49, claim protocol (4.8). -/
def RELEASE_PEER_DISCARDS : Counter := 49

/-- Counter 50, claim protocol (4.8). -/
def CLAIM_RECLAIMS : Counter := 50

/-- Counter 51, claim protocol (4.8). -/
def CLAIM_FLAP_DROPPED : Counter := 51

/-- Counter 52, claim protocol (4.8). -/
def CLAIM_FLAP_DEFERRED : Counter := 52

/-- Counter 53, claim protocol (4.8). -/
def CLAIM_TOMBSTONE_FREED : Counter := 53

/-- Counter 54, claim protocol (4.8). -/
def CLAIM_PENDING_TAKEN : Counter := 54

/-- Counter 55, claim protocol (4.8). -/
def CLAIM_PENDING_LAPSED : Counter := 55

/-- Counter 56, packet memory (R103). -/
def POOL_UPLINK_SHORT : Counter := 56

/-- Counter 57, packet memory (R103). -/
def POOL_DOWNLINK_SHORT : Counter := 57

/-- Counter 58, packet memory (R103). -/
def POOL_GROUP_STORED : Counter := 58

/-- Counter 59, packet memory (R103). -/
def POOL_GROUP_UNPLACED : Counter := 59

/-- Counter 60, uplink scheduler (R120). -/
def SCHED_UPDATES : Counter := 60

/-- Counter 61, uplink scheduler (R120). -/
def SCHED_QUOTA_FRAMES : Counter := 61

/-- Counter 62, uplink scheduler (R120). -/
def SCHED_QUOTA_BLOCKS : Counter := 62

/-- Counter 63, uplink scheduler (R120). -/
def SCHED_SPILL_FRAMES : Counter := 63

/-- Counter 64, uplink scheduler (R120). -/
def SCHED_SPILL_BLOCKS : Counter := 64

/-- Counter 65, uplink scheduler (R120). -/
def SCHED_NO_CREDIT : Counter := 65

/-- Counter 66, uplink scheduler (R120). -/
def SCHED_DEBT_CYCLES : Counter := 66

/-- Counter 67, uplink scheduler (R120). -/
def SCHED_CREDIT_FORFEIT : Counter := 67

/-- Counter 68, seat ports (R138). -/
def SEAT_LINK_UP : Counter := 68

/-- Counter 69, seat ports (R138). -/
def SEAT_LINK_DOWN : Counter := 69

/-- Counter 70, seat ports (R138). -/
def SEAT_RX_IGNORED : Counter := 70

/-- Counter 71, seat ports (R138). -/
def SEAT_RX_BAD : Counter := 71

/-- Counter 72, seat ports (R138). -/
def SEAT_RX_PAUSE : Counter := 72

/-- Counter 73, seat ports (R138). -/
def SEAT_RX_CONTROL : Counter := 73

/-- Counter 74, seat ports (R138). -/
def SEAT_RX_UNADMITTED : Counter := 74

/-- Counter 75, seat ports (R138). -/
def SEAT_RX_LIMIT_DROP : Counter := 75

/-- Counter 76, seat ports (R138). -/
def SEAT_RX_QUEUED : Counter := 76

/-- Counter 77, seat ports (R138). -/
def SEAT_PAUSE_ON : Counter := 77

/-- Counter 78, seat ports (R138). -/
def SEAT_PAUSE_SENT : Counter := 78

/-- Counter 79, seat ports (R138). -/
def SEAT_QUIET_ENTRIES : Counter := 79

/-- Counter 80, seat ports (R138). -/
def SEAT_EGRESS_FULL : Counter := 80

/-- Counter 81, seat ports (R138). -/
def SEAT_TX_FRAMES : Counter := 81

/-- Counter 82, seat ports (R138). -/
def SEAT_TX_LOST : Counter := 82

/-- Counter 83, seat ports (R138). -/
def SEAT_EGRESS_FLUSHED : Counter := 83

/-- Counter 84, radio links (R153). -/
def RADIO_LINK_UP : Counter := 84

/-- Counter 85, radio links (R153). -/
def RADIO_DOWN_SILENT : Counter := 85

/-- Counter 86, radio links (R153). -/
def RADIO_DOWN_SIGNAL : Counter := 86

/-- Counter 87, radio links (R153). -/
def RADIO_RX_BAD : Counter := 87

/-- Counter 88, radio links (R153). -/
def RADIO_RX_IGNORED : Counter := 88

/-- Counter 89, radio links (R153). -/
def RADIO_RX_STATUS : Counter := 89

/-- Counter 90, radio links (R153). -/
def RADIO_RESYNC : Counter := 90

/-- Counter 91, radio links (R153). -/
def RADIO_RX_JOIN : Counter := 91

/-- Counter 92, radio links (R153). -/
def RADIO_LEAVE_LEFT : Counter := 92

/-- Counter 93, radio links (R153). -/
def RADIO_LEAVE_TIMEOUT : Counter := 93

/-- Counter 94, radio links (R153). -/
def RADIO_RX_UNASSOCIATED : Counter := 94

/-- Counter 95, radio links (R153). -/
def RADIO_RX_LIMIT_DROP : Counter := 95

/-- Counter 96, radio links (R153). -/
def RADIO_RX_QUEUED : Counter := 96

/-- Counter 97, radio links (R153). -/
def RADIO_EGRESS_FULL : Counter := 97

/-- Counter 98, radio links (R153). -/
def RADIO_NO_CREDIT : Counter := 98

/-- Counter 99, radio links (R153). -/
def RADIO_DEGRADE_DROP : Counter := 99

/-- Counter 100, radio links (R153). -/
def RADIO_TX_FRAMES : Counter := 100

/-- Counter 101, radio links (R153). -/
def RADIO_TX_CUT : Counter := 101

/-- Counter 102, radio links (R153). -/
def RADIO_TX_DROP : Counter := 102

/-- Counter 103, radio links (R153). -/
def RADIO_DROP_LOST : Counter := 103

/-- Counter 104, radio links (R153). -/
def RADIO_EGRESS_FLUSHED : Counter := 104

/-- Counter 105, downlink delivery (R160). -/
def DOWN_RX_UNICAST : Counter := 105

/-- Counter 106, downlink delivery (R160). -/
def DOWN_RX_GROUP : Counter := 106

/-- Counter 107, downlink delivery (R160). -/
def DOWN_GROUP_PLACED : Counter := 107

/-- Counter 108, downlink delivery (R160). -/
def DOWN_FILTERED : Counter := 108

/-- Counter 109, downlink delivery (R160). -/
def DOWN_GONE : Counter := 109

/-- Counter 110, downlink delivery (R160). -/
def DOWN_ATTACH_NOT_UP : Counter := 110

/-- Counter 111, downlink delivery (R160). -/
def DOWN_DEGRADE : Counter := 111

/-- Counter 112, downlink delivery (R160). -/
def DOWN_QUEUED : Counter := 112

/-- Counter 113, downlink delivery (R160). -/
def DOWN_STALE : Counter := 113

/-- Counter 114, start and hold control (R167). -/
def HOLD_ENTRIES : Counter := 114

/-- Counter 115, start and hold control (R167). -/
def HOLD_LONG : Counter := 115

/-- Counter 116, notice queue (R170). -/
def NOTICE_DROPPED : Counter := 116

/-- Counter 117, management port (R168). -/
def MGMT_REJECTED : Counter := 117

end Ctr

/-- An alert source's number (11.4). -/
abbrev AlertNo := Fin 12

namespace Alert

/-- Alert source 0 (11.4). -/
def CONFIG : AlertNo := 0

/-- Alert source 1 (11.4). -/
def STATION_CONFLICT : AlertNo := 1

/-- Alert source 2 (11.4). -/
def PEER_CHANGE : AlertNo := 2

/-- Alert source 3 (11.4). -/
def PEER_TABLE_FULL : AlertNo := 3

/-- Alert source 4 (11.4). -/
def CLIENT_TABLE_FULL : AlertNo := 4

/-- Alert source 5 (11.4). -/
def NOTICE_PENDING : AlertNo := 5

/-- Alert source 6 (11.4). -/
def NOTICE_OVERFLOW : AlertNo := 6

/-- Alert source 7 (11.4). -/
def RADIO_DOWN : AlertNo := 7

/-- Alert source 8 (11.4). -/
def PORT_QUIET : AlertNo := 8

/-- Alert source 9 (11.4). -/
def LINE_STUCK : AlertNo := 9

/-- Alert source 10 (11.4). -/
def LINE_EXCESS_COLLISIONS : AlertNo := 10

/-- Alert source 11 (11.4). -/
def HOLD_CHANGE : AlertNo := 11

end Alert

end Sys2Proof.Machine
end

