-- ==== Sys2Proof/Machine/Bytes.lean ====
section
/-!
DEFINITION. Bytes and their order: multi-byte fields, hardware addresses, and the two CRCs (R1, R124).
-/

namespace Sys2Proof.Machine

/-- Byte `k` of a run, 0 beyond its end. -/
def byteAt (bytes : List Byte) (k : Nat) : Byte := bytes.getD k 0

/-- The number whose bytes are given most significant first (1.1, 8.1). -/
def numBE (bytes : List Byte) : Nat := bytes.foldl (fun n b => n * 256 + b.toNat) 0

/-- The field of `len` bytes that starts at byte `k`, most significant byte first. -/
def fieldBE (bytes : List Byte) (k len : Nat) : Nat := numBE ((bytes.drop k).take len)

/-- The `len` bytes of `n`, most significant first. -/
def bytesBE : Nat → Nat → List Byte
  | 0, _ => []
  | len + 1, n => BitVec.ofNat 8 (n / 256 ^ len) :: bytesBE len n

/-- The hardware address whose six bytes start at byte `k`. -/
def addrAt (bytes : List Byte) (k : Nat) : Addr := BitVec.ofNat 48 (fieldBE bytes k 6)

/-- The six bytes of an address, first sent first. -/
def addrBytes (a : Addr) : List Byte := bytesBE 6 a.toNat

/-- A group address: the lowest bit of its first byte is set. -/
def isGroupAddr (a : Addr) : Bool := a.getLsbD 40

/-- One step of the CRC register with the polynomial of R1. -/
def crcStep (reg : BitVec 32) (bit : Bool) : BitVec 32 :=
  if reg.getLsbD 31 != bit then (reg <<< 1) ^^^ 0x04C11DB7#32 else reg <<< 1

/-- The bits of a byte, most significant first. -/
def bitsMsb (b : Byte) : List Bool :=
  [b.getLsbD 7, b.getLsbD 6, b.getLsbD 5, b.getLsbD 4, b.getLsbD 3, b.getLsbD 2, b.getLsbD 1, b.getLsbD 0]

/-- The CRC register after the bytes, from all ones, each byte's bits in the order `bits` gives. R1 states no
bit order for the line check, R124 states one for the FCS (log entry 29). -/
def crcRun (bits : Byte → List Bool) (bytes : List Byte) : BitVec 32 :=
  bytes.foldl (fun reg b => (bits b).foldl crcStep reg) 0xFFFFFFFF#32

/-- The line frame and radio message check (R1, 8.1): the complement of the register, most significant
byte first. That each byte's bits enter the register most significant bit first is the model's choice
(DESIGN CHOICE, log entry 29): R1 gives the order of the bytes alone. -/
def lineCheck (bytes : List Byte) : List Byte := bytesBE 4 (~~~ (crcRun bitsMsb bytes)).toNat

/-- The passenger frame's FCS (R124): bytes taken least significant bit first, the complement of the
register sent with its x^31 coefficient in the first bit, which is bit 0 of the first FCS byte. -/
def frameFcs (bytes : List Byte) : List Byte :=
  bytesBE 4 (~~~ (crcRun (fun b => (bitsMsb b).reverse) bytes)).toNat |>.map BitVec.reverse

/-- The bytes end with the check of the bytes before it (R1). -/
def checkPasses (bytes : List Byte) : Bool :=
  bytes.drop (bytes.length - 4) == lineCheck (bytes.take (bytes.length - 4))

/-- The frame ends with the FCS of the bytes before it (R124). -/
def fcsPasses (bytes : List Byte) : Bool :=
  bytes.drop (bytes.length - 4) == frameFcs (bytes.take (bytes.length - 4))

/-- The blocks of 128 bytes that a frame of `len` bytes takes: ceil(len / 128) (R93). -/
def blocksFor (len : Nat) : Nat := (len + 127) / 128

/-- The bucket of an address: the sum of its six bytes modulo 64 (R48). -/
def bucketOf (a : Addr) : Fin 64 := Fin.ofNat 64 ((addrBytes a).map (·.toNat)).sum

/-- The entry index of a way of a bucket: bucket × 4 + way (R48). -/
def wayIndex (b : Fin 64) (w : Fin 4) : Fin 256 := ⟨b.val * 4 + w.val, by omega⟩

/-- The four ways of an address's bucket, lowest way first (R48). -/
def waysOf (a : Addr) : List (Fin 256) :=
  let b := bucketOf a
  [wayIndex b 0, wayIndex b 1, wayIndex b 2, wayIndex b 3]

/-- The flag number of a group address: the exclusive-or of its six bytes (R155). -/
def groupFlag (a : Addr) : Byte := (addrBytes a).foldl (· ^^^ ·) 0

/-- The count `a` is ahead of `b` as 16-bit serial numbers: (a − b) mod 2^16 lies in 1..32767. -/
def ahead16 (a b : BitVec 16) : Bool := 1 ≤ (a - b).toNat && (a - b).toNat ≤ 32767

/-- A number as a 16-bit word of the management port. -/
def word (n : Nat) : Word := BitVec.ofNat 16 n

/-- A two-word value, high word first (11.1). -/
def twoWords (v : BitVec 32) : List Word := [v.extractLsb' 16 16, v.extractLsb' 0 16]

/-- A flag as a word: 1 when set (11.1). -/
def flagWord (b : Bool) : Word := if b then 1 else 0

/-- An address as three words, most significant first (11.1). -/
def addrWords (a : Addr) : List Word := [a.extractLsb' 32 16, a.extractLsb' 16 16, a.extractLsb' 0 16]

end Sys2Proof.Machine
end

