-- ==== Sys2Proof/Machine/Image.lean ====
section
/-!
DEFINITION. The configuration image (10.4): its fields, the default image, the image check and the
settings in effect that an image gives (R164).
-/

namespace Sys2Proof.Machine

/-- The four passenger classes (Terms), CREW = 0 to OPEN = 3. -/
inductive PClass
  | crew
  | premium
  | standard
  | openNet
deriving DecidableEq, Repr

/-- The class number. -/
def PClass.num : PClass → Fin 4
  | .crew => 0
  | .premium => 1
  | .standard => 2
  | .openNet => 3

/-- The class of a number. -/
def PClass.ofNum : Fin 4 → PClass
  | 0 => .crew
  | 1 => .premium
  | 2 => .standard
  | 3 => .openNet

/-- The settings in effect: what every chapter but this one calls "the image" (R164). -/
structure Settings where
  /-- Own station number (word 1). -/
  station : Nat
  /-- The gateway station (word 2). -/
  gateway : Nat
  /-- Cycle period P in 10 ms units (word 3). -/
  period : Nat
  /-- Line passenger capacity C, blocks (word 4). -/
  capacity : Nat
  /-- Floor F, blocks (word 5). -/
  floor : Nat
  /-- UPLINK pool depth U (word 6). -/
  uplinkDepth : Nat
  /-- Client uplink limit (word 7). -/
  uplinkLimit : Nat
  /-- Seat egress limit (word 8). -/
  seatEgressLimit : Nat
  /-- Radio egress limit (word 9). -/
  radioEgressLimit : Nat
  /-- Clients per seat port (word 10). -/
  clientsPerPort : Nat
  /-- Claim hold-off, ms (word 11). -/
  holdOffMs : Nat
  /-- Tombstone time, s (word 12). -/
  tombstoneS : Nat
  /-- Idle limit, s (word 13). -/
  idleLimitS : Nat
  /-- Hold limit, s (word 14). -/
  holdLimitS : Nat
  /-- Weight of each class (word 15). -/
  weights : Vector Nat 4
  /-- Priority of each class (word 16). -/
  priorities : Vector Nat 4
  /-- Class of each network index (word 17). -/
  netClasses : Vector PClass 4
  /-- Class of each seat port (words 18 to 21). -/
  portClasses : Vector PClass 32
  /-- Priority of each alert source (words 22 to 24). -/
  alertPriorities : Vector Nat 12
  /-- Initial alert mask, bit n for source n (word 25). -/
  alertMask : Word
  /-- Group filter, bit n for flag n (words 26 to 41). -/
  groupFilter : BitVec 256
deriving DecidableEq, Repr

/-- The nearer end of a range (R164). -/
def clamp (lo hi n : Nat) : Nat := max lo (min n hi)

/-- The 4-bit item `k` of a word whose items run from bit 15 down. -/
def nibbleOf (w : Word) (k : Nat) : Nat := (w.extractLsb' (12 - 4 * k) 4).toNat

/-- The 2-bit item `k` of a word of eight items that run from bit 15 down. -/
def pairOf (w : Word) (k : Nat) : PClass := PClass.ofNum (w.extractLsb' (14 - 2 * k) 2).toFin

/-- The four 4-bit items of a word. -/
def nibbles (w : Word) : List Nat := [nibbleOf w 0, nibbleOf w 1, nibbleOf w 2, nibbleOf w 3]

/-- The eight 2-bit items of a word. -/
def pairs (w : Word) : List PClass :=
  [pairOf w 0, pairOf w 1, pairOf w 2, pairOf w 3, pairOf w 4, pairOf w 5, pairOf w 6, pairOf w 7]

/-- The words 26 to 41 as 256 flags: word 26 + k holds flags 16k to 16k + 15, bit 0 being flag 16k. -/
def filterOf (img : Image) : BitVec 256 :=
  img[41] ++ img[40] ++ img[39] ++ img[38] ++ img[37] ++ img[36] ++ img[35] ++ img[34] ++
  img[33] ++ img[32] ++ img[31] ++ img[30] ++ img[29] ++ img[28] ++ img[27] ++ img[26]

/-- The settings an image gives, each ranged field of words 3 to 14 clamped to its range, C before F
(R164, second step; 10.4). -/
def Settings.ofImage (img : Image) : Settings :=
  let c := clamp 1024 65535 img[4].toNat
  { station := img[1].toNat
    gateway := img[2].toNat
    period := clamp 10 200 img[3].toNat
    capacity := c
    floor := clamp 0 (c / 64) img[5].toNat
    uplinkDepth := clamp 256 1792 img[6].toNat
    uplinkLimit := clamp 8 255 img[7].toNat
    seatEgressLimit := clamp 16 255 img[8].toNat
    radioEgressLimit := clamp 32 1023 img[9].toNat
    clientsPerPort := clamp 1 4 img[10].toNat
    holdOffMs := clamp 20 500 img[11].toNat
    tombstoneS := clamp 1 10 img[12].toNat
    idleLimitS := clamp 30 3600 img[13].toNat
    holdLimitS := clamp 1 60 img[14].toNat
    weights := ⟨(nibbles img[15]).toArray, rfl⟩
    priorities := ⟨(nibbles img[16]).toArray, rfl⟩
    netClasses := ⟨#[pairOf img[17] 4, pairOf img[17] 5, pairOf img[17] 6, pairOf img[17] 7], rfl⟩
    portClasses := ⟨(pairs img[18] ++ pairs img[19] ++ pairs img[20] ++ pairs img[21]).toArray, rfl⟩
    alertPriorities := ⟨(nibbles img[22] ++ nibbles img[23] ++ nibbles img[24]).toArray, rfl⟩
    alertMask := img[25]
    groupFilter := filterOf img }

/-- Words 3 to 14 as the settings hold them: no field was clamped when they are the image's own
(R164). -/
def Settings.rangedFields (c : Settings) : List Nat :=
  [c.period, c.capacity, c.floor, c.uplinkDepth, c.uplinkLimit, c.seatEgressLimit, c.radioEgressLimit,
   c.clientsPerPort, c.holdOffMs, c.tombstoneS, c.idleLimitS, c.holdLimitS]

/-- Some ranged field of the image was clamped (R164). -/
def imageClamped (img : Image) : Bool :=
  (Settings.ofImage img).rangedFields != ((img.toList.drop 3).take 12).map (·.toNat)

/-- The image passes its check (R164, first step). -/
def imageGood (img : Image) : Bool :=
  (img.toList.map (·.toNat)).sum % 65536 == 0 &&
  img[0] == 1 &&
  (1 ≤ img[1].toNat && img[1].toNat ≤ 4094) &&
  (1 ≤ img[2].toNat && img[2].toNat ≤ 4094 && img[2] != img[1])

/-- Words 0 to 78 of the default image (10.4, last column). -/
def defaultWords : List Word :=
  [1, 0, 0, 50, 20000, 128, 1280, 64, 48, 192, 2, 100, 2, 300, 20] ++
  [0x8641, 0xC862, 0x001B, 0xAAAA, 0xAAAA, 0xAAAA, 0xAAAA, 0x8888, 0x8888, 0x8888, 0] ++
  List.replicate 16 0 ++ List.replicate 37 0

/-- The check word of the default image: the value that makes the sum 0 (10.4). -/
def defaultCheck : Word := - defaultWords.sum

/-- The default image (10.4). -/
def defaultImage : Image := ⟨(defaultWords ++ [defaultCheck]).toArray, rfl⟩

end Sys2Proof.Machine
end

