-- ==== Sys2Proof/Machine/Types.lean ====
section
/-!
DEFINITION. The parts of the state, block by block, with the value each has after a reset.
A timer is `none` when stopped, and otherwise the tick at which it expires (log entry 2).
-/

namespace Sys2Proof.Machine

/-- A timer: stopped, or running with the tick of its expiry. -/
abbrev Timer := Option Nat

/-! ## Start and hold control (Chapter 10) -/

/-- The operating state (10.1); `inReset` is the part held in reset, before STARTING (R162). -/
inductive OpState
  | inReset
  | starting
  | loading
  | unconfigured
  | running
  | hold
deriving DecidableEq, Repr

/-- The outcome of the last image check (R162). -/
inductive LoadOutcome
  | none
  | good
  | clamped
  | badCheck
  | absent
deriving DecidableEq, Repr

/-- The reset cause record (R162). -/
structure ResetCause where
  power : Bool := false
  dip : Bool := false
  pin : Bool := false
  restart : Bool := false
  outcome : LoadOutcome := .none
deriving DecidableEq, Repr

/-- Start and hold control, with the inputs it reads. -/
structure Control where
  op : OpState
  cause : ResetCause
  /-- The held image (10.4). -/
  image : Image
  /-- The settings in effect (R164). -/
  settings : Settings
  startDelay : Timer := none
  holdTimer : Timer := none
  longMark : Bool := false
  /-- The exit settle window (R167). -/
  settleWindow : Timer := none
  /-- The HOLD input. -/
  holdInput : Bool := false
  /-- The SUPPLY_OK input is high. -/
  supplyOk : Bool := false
  /-- The RESET_N input is high (released). -/
  resetN : Bool := false
deriving DecidableEq, Repr

/-! ## The line interface (Chapter 1) -/

/-- The line state (R8). -/
inductive LineState
  | busy
  | gap
  | idle
deriving DecidableEq, Repr

/-- The kinds of line frame (1.1). -/
inductive FrameKind
  | passenger
  | tally
  | claim
  | release
deriving DecidableEq, Repr

/-- A stored frame: its blocks of packet memory, in order, and its bytes (R92). -/
structure Frame where
  blocks : List Nat
  data : List Byte
deriving DecidableEq, Repr

/-- The block count of a stored frame. -/
def Frame.size (f : Frame) : Nat := f.blocks.length

/-- An uplink frame record (R92, R94). -/
structure UplinkRec where
  frame : Frame
  cls : PClass
  owner : Fin 256
deriving DecidableEq, Repr

/-- A record of the control queue (R17). -/
inductive CtrlRec
  | tally (d w a period : Nat) (hold conflict : Bool) (clients : Nat)
  | claim (addr : Addr) (num : BitVec 8) (cls : PClass)
  | release (addr : Addr) (num : BitVec 8) (discard claimant : Nat)
deriving DecidableEq, Repr

/-- The record is a TALLY. -/
def CtrlRec.isTally : CtrlRec → Bool
  | .tally .. => true
  | _ => false

/-- The record is a CLAIM for the address (R17). -/
def CtrlRec.isClaimFor (a : Addr) : CtrlRec → Bool
  | .claim b _ _ => a == b
  | _ => false

/-- What the transmitter slot holds (1.3). -/
inductive Content
  | passenger (record : UplinkRec)
  | control (record : CtrlRec)
deriving DecidableEq, Repr

/-- The kind of frame sent for a content. -/
def Content.kind : Content → FrameKind
  | .passenger _ => .passenger
  | .control (.tally ..) => .tally
  | .control (.claim ..) => .claim
  | .control (.release ..) => .release

/-- The transmitter state of a full slot (1.3); an empty slot is the state EMPTY. -/
inductive TxPhase
  | sending
  | backoff
  | defer
deriving DecidableEq, Repr

/-- A full transmitter slot: its state, its frame, the sequence written in the frame's header and the
attempt count (R10, R14). -/
structure Slot where
  phase : TxPhase
  content : Content
  seq : BitVec 8
  attempts : Nat
deriving DecidableEq, Repr

/-- The line interface. The transmitter is EMPTY, with attempt count 0, when `slot` is `none`. -/
structure LineIf where
  /-- Carrier present as CARRIER_RISE and CARRIER_FALL last gave it (log entry 5). -/
  carrier : Bool := false
  line : LineState := .gap
  gapTimer : Timer := none
  stuckTimer : Timer := none
  backoffTimer : Timer := none
  slot : Option Slot := none
  queue : List CtrlRec := []
  seqPassenger : BitVec 8 := 0
  seqTally : BitVec 8 := 0
  seqClaim : BitVec 8 := 0
  seqRelease : BitVec 8 := 0
deriving DecidableEq, Repr

/-! ## The tally engine (Chapter 2) -/

/-- A peer entry (2.2); its expiry timer always runs. -/
structure Peer where
  station : Nat
  /-- Announced period, 10 ms units. -/
  period : Nat
  lastSeq : BitVec 8
  d : Nat
  w : Nat
  a : Nat
  clients : Nat
  hold : Bool
  conflict : Bool
  /-- The tick at which the expiry timer expires. -/
  due : Nat
  lost : Nat
deriving DecidableEq, Repr

/-- The conflict state (2.1). -/
inductive ConflictState
  | normal
  | conflict
deriving DecidableEq, Repr

/-- The tally engine, as R23 leaves it after a reset. -/
structure TallyEngine where
  /-- The peer table, in ascending station number. -/
  peers : List Peer := []
  cycleTimer : Timer := none
  lastD : Nat := 0
  lastW : Nat := 0
  lastA : Nat := 0
  conflict : ConflictState := .normal
  clean : Nat := 0
  reportMark : Bool := false
deriving DecidableEq, Repr

/-! ## The client table (Chapters 3 and 4) -/

/-- Where a client is reached (Terms). -/
inductive Attachment
  | seat (port : Fin 32)
  | radio (radio : Fin 6)
deriving DecidableEq, Repr

/-- The state of a client entry (3.3); `localHeld` is LOCAL. -/
inductive ClientState
  | free
  | probation
  | localHeld
  | leaving
  | moved
deriving DecidableEq, Repr

/-- PROBATION or LOCAL: the client is served here. -/
def ClientState.served : ClientState → Bool
  | .probation | .localHeld => true
  | _ => false

/-- PROBATION, LOCAL or LEAVING: the entry may hold uplink frames (R50). -/
def ClientState.present : ClientState → Bool
  | .probation | .localHeld | .leaving => true
  | _ => false

/-- A client entry (3.1), as R46 leaves it after a reset. -/
structure Client where
  addr : Addr := 0
  state : ClientState := .free
  tenancy : BitVec 8 := 0
  attach : Attachment := .seat 0
  cls : PClass := .crew
  net : Option (Fin 4) := none
  claimNum : BitVec 8 := 0
  /-- The uplink queue, oldest first. -/
  queue : List UplinkRec := []
  quota : Nat := 0
  used : Nat := 0
  charged : Bool := false
  /-- The reading of the running clock at which the idle age was last 0 (R60, log entry 2). -/
  heardAt : Nat := 0
  /-- Hold-off in PROBATION, drain in LEAVING, tombstone in MOVED. -/
  timer : Timer := none
  flapCount : Nat := 0
  /-- The start of the flap window opened last, if any (R85). -/
  flapStart : Option Nat := none
  /-- The pending reattachment: a radio and a network index (R88). -/
  pendingJoin : Option (Fin 6 × Fin 4) := none
deriving DecidableEq, Repr

/-- The block count of an uplink queue (R50). -/
def Client.blocks (c : Client) : Nat := (c.queue.map (·.frame.size)).sum

/-! ## Packet memory (Chapter 5) -/

/-- A group downlink record: its frame and its reference count (R97). -/
structure GroupRec where
  frame : Frame
  refs : Nat
deriving DecidableEq, Repr

/-- A unicast downlink record (R92, R96). -/
structure UnicastRec where
  frame : Frame
  cls : PClass
  dest : Fin 256
  tenancy : BitVec 8
  attach : Attachment
deriving DecidableEq, Repr

/-- A position of an egress queue: a unicast record, or a group record named by its frame, which is
fixed while the record exists (R92). -/
inductive EgressPos
  | unicast (record : UnicastRec)
  | group (frame : Frame)
deriving DecidableEq, Repr

/-- The frame a position holds. -/
def EgressPos.frame : EgressPos → Frame
  | .unicast r => r.frame
  | .group f => f

/-- The block count of an egress queue: a group frame is counted in full in each (R132, R147). -/
def queueBlocks (q : List EgressPos) : Nat := (q.map (·.frame.size)).sum

/-- Packet memory: the free blocks of each pool and the group records that stand. Uplink and unicast
records stand in their queues (R92). -/
structure PacketMem where
  /-- U: the depth of the UPLINK pool; the DOWNLINK pool has the other blocks. -/
  depth : Nat
  uplinkFree : List Nat
  downlinkFree : List Nat
  groups : List GroupRec
deriving DecidableEq, Repr

/-- Packet memory with every block free and the split at `u` (R90). Which block belongs to which pool
is not observable: the model gives UPLINK the lowest numbers (log entry 9). -/
def PacketMem.split (u : Nat) : PacketMem :=
  { depth := u
    uplinkFree := List.range u
    downlinkFree := List.range' u (Config.memoryBlocks - u)
    groups := [] }

/-! ## The uplink scheduler (Chapter 6) -/

/-- The scheduler, as R104 leaves it after a reset. -/
structure Scheduler where
  /-- The carriage credit, signed. -/
  credit : Int := 0
  aeff : Nat := 0
  cycleCharge : Nat := 0
  /-- Per class: the entry last served in the quota phase. -/
  quotaPtr : Vector (Fin 256) 4 := Vector.replicate 4 255
  /-- Per class: the entry last served in the spill phase. -/
  spillPtr : Vector (Fin 256) 4 := Vector.replicate 4 255
deriving DecidableEq, Repr

/-! ## Seat ports (Chapter 7) -/

/-- The state of a seat port (7.1). -/
inductive PortState
  | absent
  | settling
  | up
  | quiet
  | held
deriving DecidableEq, Repr

/-- The transmit side of a seat port (R133); a pause under way keeps its time (R134). -/
inductive SeatTx
  | idle
  | sendingPause (time : BitVec 16)
  | delivering
deriving DecidableEq, Repr

/-- A seat port, as R121 leaves it after a reset, with its two PHY inputs. -/
structure SeatPort where
  state : PortState := .held
  reading : Nat := 0
  exitMark : Bool := false
  speed : Speed := .mb100
  faultWindow : Timer := none
  bad : Nat := 0
  unadmitted : Nat := 0
  quietTimer : Timer := none
  pausing : Bool := false
  refreshTimer : Timer := none
  pendingPause : Option (BitVec 16) := none
  /-- The received-pause timer (R129). -/
  rxPause : Timer := none
  tx : SeatTx := .idle
  queue : List EgressPos := []
  /-- The PHY's link indication. -/
  link : Bool := false
  /-- The speed of the PHY's link. -/
  phySpeed : Speed := .mb100
deriving DecidableEq, Repr

/-! ## Radio links (Chapter 8) -/

/-- The state of a radio link (8.2). -/
inductive LinkState
  | down
  | up
  | held
deriving DecidableEq, Repr

/-- The transmit side of a radio link (R148); a DROP under way keeps its address. -/
inductive RadioTx
  | idle
  | sendingData
  | sendingDrop (addr : Addr)
deriving DecidableEq, Repr

/-- A radio link, as R139 leaves it after a reset, with its link signal input. -/
structure RadioLink where
  state : LinkState := .held
  liveness : Timer := none
  load : Nat := 0
  /-- B, the buffer size reported. -/
  buffer : Nat := 1
  /-- T, the frames taken as reported. -/
  taken : BitVec 16 := 0
  /-- S, the DATA messages started. -/
  sent : BitVec 16 := 0
  tx : RadioTx := .idle
  drops : List Addr := []
  queue : List EgressPos := []
  /-- The link signal is present. -/
  signal : Bool := false
deriving DecidableEq, Repr

/-! ## Management port and alerts (Chapter 11) -/

/-- The reason of a CLIENT_LEFT notice (11.1). -/
inductive LeftReason
  | leave
  | drain
  | idle
  | evict
  | hold
deriving DecidableEq, Repr

/-- A notice (11.2). -/
inductive Notice
  | clientAdded (index : Fin 256) (tenancy : BitVec 8) (addr : Addr) (attach : Attachment)
  | clientLeft (index : Fin 256) (tenancy : BitVec 8) (addr : Addr) (attach : Attachment)
      (reason : LeftReason)
  | clientMovedAway (index : Fin 256) (tenancy : BitVec 8) (addr : Addr) (attach : Attachment)
      (station : Nat)
  | attachmentChanged (index : Fin 256) (tenancy : BitVec 8) (addr : Addr) (attach : Attachment)
  | peerJoined (station : Nat)
  | peerExpired (station : Nat)
  | tableFull (addr : Addr) (attach : Attachment)
deriving DecidableEq, Repr

/-- An alert source (R173), as power-up, supply dip and the reset pin leave it. -/
structure AlertSource where
  pending : Bool := false
  count : BitVec 8 := 0
  mask : Bool := false
  priority : Nat := 8
deriving DecidableEq, Repr

end Sys2Proof.Machine
end

