-- ==== Sys2Proof/Machine/State.lean ====
section
/-!
DEFINITION. The state of the MC3206: plain data, one field per block, and the state after power-up.
-/

namespace Sys2Proof.Machine

/-- The whole state of the part. -/
structure State where
  /-- The commands that wait, first in, first out. The model's own field. -/
  pending : List Instr
  /-- The expiry commands that the clock has put in the queue and that have not been taken yet. The
  model's own field (log entry 2). -/
  raised : List Instr
  /-- The clock, in ticks of 80 ns since the last reset. The model's own field (log entry 2). -/
  now : Nat
  /-- The ticks of it spent in RUNNING, by which idle ages count (R60). The model's own field. -/
  runNow : Nat
  /-- How many backoff numbers have been drawn. The model's own field (log entry 3). -/
  draws : Nat
  ctl : Control
  line : LineIf
  tally : TallyEngine
  /-- The 256 client entries. -/
  clients : Vector Client 256
  /-- The station-wide claim sequence (R71). -/
  claimSeq : BitVec 8
  mem : PacketMem
  sched : Scheduler
  seats : Vector SeatPort 32
  /-- When the next presence scan is due (R122). -/
  scanTimer : Timer
  radios : Vector RadioLink 6
  /-- The group filter, bit n for flag n (R155). -/
  filter : BitVec 256
  /-- The 118 counters (R172). -/
  counters : Vector (BitVec 32) 118
  /-- The notice queue, oldest first (R170). -/
  notices : List Notice
  alerts : Vector AlertSource 12
  /-- The response of the transaction taken last: the result word, then its data (R168). -/
  response : List Word
  /-- RESTART has been answered OK and its transaction has not ended (R162). -/
  restartArmed : Bool
deriving DecidableEq, Repr

/-- Why a step can fault. No event of the part stops it: every rule gives an effect, so there is no
constructor and no command faults (safe). -/
inductive Fault
deriving DecidableEq, Repr

/-- Why a command can be refused. -/
inductive Refusal
  /-- Raised by `exec` for a command that has no meaning in the model; no command is in that case
  (safe: the model stops where the part goes on). -/
  | notModelled (mnemonic : String)
deriving DecidableEq, Repr

/-- The answer of a command. -/
abbrev Result := Host.Outcome State Fault Refusal

/-- The part right after a power-up (R162), held in reset with the POWER flag set, the default image
held, every block cleared as its chapter states, and every input low. -/
def State.reset : State where
  pending := []
  raised := []
  now := 0
  runNow := 0
  draws := 0
  ctl := { op := .inReset
           cause := { power := true }
           image := defaultImage
           settings := Settings.ofImage defaultImage }
  line := {}
  tally := {}
  clients := Vector.replicate 256 {}
  claimSeq := 0
  mem := PacketMem.split Config.resetDepth
  sched := {}
  seats := Vector.replicate 32 {}
  scanTimer := none
  radios := Vector.replicate 6 {}
  filter := 0
  counters := Vector.replicate 118 0
  notices := []
  alerts := Vector.replicate 12 {}
  response := []
  restartArmed := false

end Sys2Proof.Machine
end

