-- ==== Sys2Proof/Machine/Ops.lean ====
section
/-!
DEFINITION. The named operations over the state that every block uses: access to one entry, port,
link or alert source; counters; alerts; notices; the clock and its timers.
-/

namespace Sys2Proof.Machine

/-! ## Access -/

/-- The client entry `i`. -/
def State.client (s : State) (i : Fin 256) : Client := s.clients[i]

/-- The state with client entry `i` changed by `f`. -/
def State.updClient (s : State) (i : Fin 256) (f : Client → Client) : State :=
  { s with clients := s.clients.set i (f s.clients[i]) }

/-- The seat port `p`. -/
def State.seat (s : State) (p : Fin 32) : SeatPort := s.seats[p]

/-- The state with seat port `p` changed by `f`. -/
def State.updSeat (s : State) (p : Fin 32) (f : SeatPort → SeatPort) : State :=
  { s with seats := s.seats.set p (f s.seats[p]) }

/-- The radio link `r`. -/
def State.radio (s : State) (r : Fin 6) : RadioLink := s.radios[r]

/-- The state with radio link `r` changed by `f`. -/
def State.updRadio (s : State) (r : Fin 6) (f : RadioLink → RadioLink) : State :=
  { s with radios := s.radios.set r (f s.radios[r]) }

/-- The alert source `a`. -/
def State.alert (s : State) (a : AlertNo) : AlertSource := s.alerts[a]

/-- The state with alert source `a` changed by `f`. -/
def State.updAlert (s : State) (a : AlertNo) (f : AlertSource → AlertSource) : State :=
  { s with alerts := s.alerts.set a (f s.alerts[a]) }

/-- The state with start and hold control changed by `f`. -/
def State.updCtl (s : State) (f : Control → Control) : State := { s with ctl := f s.ctl }

/-- The state with the line interface changed by `f`. -/
def State.updLine (s : State) (f : LineIf → LineIf) : State := { s with line := f s.line }

/-- The state with the tally engine changed by `f`. -/
def State.updTally (s : State) (f : TallyEngine → TallyEngine) : State := { s with tally := f s.tally }

/-- The state with the scheduler changed by `f`. -/
def State.updSched (s : State) (f : Scheduler → Scheduler) : State := { s with sched := f s.sched }

/-- The state with packet memory changed by `f`. -/
def State.updMem (s : State) (f : PacketMem → PacketMem) : State := { s with mem := f s.mem }

/-- The operating state. -/
def State.op (s : State) : OpState := s.ctl.op

/-- The settings in effect: "the image" of every chapter (R164). -/
def State.cfg (s : State) : Settings := s.ctl.settings

/-- RUNNING or HOLD: the states in which the blocks work (10.1). -/
def State.active (s : State) : Bool := s.op == .running || s.op == .hold

/-- All client entry indices, ascending. -/
def allEntries : List (Fin 256) := List.finRange 256

/-- All seat port numbers, ascending. -/
def allPorts : List (Fin 32) := List.finRange 32

/-- All radio numbers, ascending. -/
def allRadios : List (Fin 6) := List.finRange 6

/-! ## Counters (R172) -/

/-- A 32-bit count raised by `n`, holding at its largest value. -/
def satAdd (v : BitVec 32) (n : Nat) : BitVec 32 := BitVec.ofNat 32 (min (v.toNat + n) 4294967295)

/-- Counts `n` in counter `c` (R172). -/
def State.count (s : State) (c : Counter) (n : Nat := 1) : State :=
  { s with counters := s.counters.set c (satAdd s.counters[c] n) }

/-! ## Alerts and notices -/

/-- An alert source after a raise: pending, its count up by one with wrap (R173). -/
def AlertSource.raised (a : AlertSource) : AlertSource :=
  { a with pending := true, count := a.count + 1 }

/-- Raises an alert source (R173). -/
def State.raiseAlert (s : State) (a : AlertNo) : State := s.updAlert a AlertSource.raised

/-- Posts a notice: at the tail, with NOTICE_PENDING raised if the queue was empty; dropped, with
NOTICE_DROPPED counted and NOTICE_OVERFLOW raised, if 32 are held (R170). -/
def State.postNotice (s : State) (n : Notice) : State :=
  if s.notices.length < Config.noticeCap then
    if s.notices.isEmpty then ({ s with notices := s.notices ++ [n] }).raiseAlert Alert.NOTICE_PENDING
    else { s with notices := s.notices ++ [n] }
  else (s.count Ctr.NOTICE_DROPPED).raiseAlert Alert.NOTICE_OVERFLOW

/-- The notice CLIENT_ADDED of an entry as it stands (11.2). -/
def State.postAdded (s : State) (i : Fin 256) : State :=
  s.postNotice (.clientAdded i (s.client i).tenancy (s.client i).addr (s.client i).attach)

/-- The notice CLIENT_LEFT of an entry as it stands (11.2). -/
def State.postLeft (s : State) (i : Fin 256) (r : LeftReason) : State :=
  s.postNotice (.clientLeft i (s.client i).tenancy (s.client i).addr (s.client i).attach r)

/-- The notice ATTACHMENT_CHANGED of an entry as it stands (11.2). -/
def State.postAttachment (s : State) (i : Fin 256) : State :=
  s.postNotice (.attachmentChanged i (s.client i).tenancy (s.client i).addr (s.client i).attach)

/-! ## The clock (log entry 2) -/

/-- `n` ticks pass. The running clock counts them while the operating state is RUNNING (R60). -/
def State.advance (s : State) (n : Nat) : State :=
  { s with now := s.now + n
           runNow := if s.op = .running then s.runNow + n else s.runNow }

/-- The time of a timer's expiry is reached: the ticks still wanting pass. -/
def State.advanceTo (s : State) (due : Nat) : State := s.advance (due - s.now)

/-- A timer started now with a period of `n` ticks. -/
def State.after (s : State) (n : Nat) : Timer := some (s.now + n)

/-- A running timer whose expiry time has come. -/
def State.isDue (s : State) (t : Timer) : Bool :=
  match t with
  | none => false
  | some due => due ≤ s.now

/-- The expiry command `c` is taken: it no longer waits. -/
def State.consume (s : State) (c : Instr) : State := { s with raised := s.raised.erase c }

/-- The expiry command `c`, raised by the clock when its timer `t` was due, was overtaken: a command taken
before it has stopped the timer or started it anew, so that the expiry does not happen (R25, R60, R81,
R142; log entry 2). -/
def State.overtaken (s : State) (c : Instr) (t : Timer) : Bool := s.raised.contains c && !s.isDue t

/-- The expiry command `c` of the timer `t`: nothing happens where the timer is stopped or the expiry was
overtaken; otherwise its time is reached and `f` is its effect. -/
def State.onExpiry (s : State) (c : Instr) (t : Timer) (f : State → State) : State :=
  match t with
  | none => s.consume c
  | some due =>
    if s.overtaken c (some due) = true then s.consume c else f ((s.consume c).advanceTo due)

/-- An event `c` of its own follows at once (R14, R161): it is put at the front of the queue, before every
command that waits (log entry 27). -/
def State.followedBy (s : State) (c : Instr) : State := { s with pending := c :: s.pending }

/-- The expiry command `c` of a timer started at zero length follows at once (R14; log entry 27): it is raised
with the start. -/
def State.expiresAtOnce (s : State) (c : Instr) : State := { s.followedBy c with raised := c :: s.raised }

/-- The idle age of an entry, in ticks (R60). -/
def State.idleTicks (s : State) (c : Client) : Nat := s.runNow - c.heardAt

/-- The idle age of an entry in seconds, holding at 3600 s (R60). -/
def State.idleSeconds (s : State) (c : Client) : Nat :=
  min Config.idleCapSeconds (s.idleTicks c / Config.secTicks 1)

/-- Milliseconds left of a timer, rounded down; 0 when no timer runs (11.1). -/
def State.msLeft (s : State) (t : Timer) : Nat :=
  match t with
  | none => 0
  | some due => (due - s.now) / Config.msTicks 1

end Sys2Proof.Machine
end

