-- ==== Sys2Proof/Machine/Memory.lean ====
section
/-!
DEFINITION. Packet memory (Chapter 5): allocation, the return of blocks, group records and the end of
an egress position.
-/

namespace Sys2Proof.Machine

/-- A request for the blocks of `len` bytes from the UPLINK pool: all or nothing; a refusal counts
POOL_UPLINK_SHORT (R93). -/
def State.allocUplink (s : State) (len : Nat) : State × Option (List Nat) :=
  if blocksFor len ≤ s.mem.uplinkFree.length then
    (s.updMem (fun m => { m with uplinkFree := m.uplinkFree.drop (blocksFor len) }),
      some (s.mem.uplinkFree.take (blocksFor len)))
  else (s.count Ctr.POOL_UPLINK_SHORT, none)

/-- A request for the blocks of `len` bytes from the DOWNLINK pool (R93). -/
def State.allocDownlink (s : State) (len : Nat) : State × Option (List Nat) :=
  if blocksFor len ≤ s.mem.downlinkFree.length then
    (s.updMem (fun m => { m with downlinkFree := m.downlinkFree.drop (blocksFor len) }),
      some (s.mem.downlinkFree.take (blocksFor len)))
  else (s.count Ctr.POOL_DOWNLINK_SHORT, none)

/-- Blocks return to the UPLINK pool (R95). -/
def State.releaseUplink (s : State) (blocks : List Nat) : State :=
  s.updMem (fun m => { m with uplinkFree := blocks ++ m.uplinkFree })

/-- Blocks return to the DOWNLINK pool (R98). -/
def State.releaseDownlink (s : State) (blocks : List Nat) : State :=
  s.updMem (fun m => { m with downlinkFree := blocks ++ m.downlinkFree })

/-- The group record of a frame is made with its reference count (R97). -/
def State.storeGroup (s : State) (f : Frame) (refs : Nat) : State :=
  s.updMem (fun m => { m with groups := { frame := f, refs := refs } :: m.groups })

/-- The reference count of a group frame falls by one; at 0 the record ends and its blocks return to
the DOWNLINK pool (R98). -/
def State.dropGroupRef (s : State) (f : Frame) : State :=
  match s.mem.groups.find? (·.frame == f) with
  | none => s
  | some g =>
    if g.refs ≤ 1 then
      (s.updMem (fun m => { m with groups := m.groups.erase g })).releaseDownlink f.blocks
    else
      s.updMem (fun m => { m with groups := m.groups.replace g { g with refs := g.refs - 1 } })

/-- The end of an egress position: a unicast record is freed, a group record's count falls (R98). -/
def State.endPosition (s : State) (pos : EgressPos) : State :=
  match pos with
  | .unicast r => s.releaseDownlink r.frame.blocks
  | .group f => s.dropGroupRef f

/-- The ends of several positions, oldest first, each counted once in `c` (R99). -/
def State.endPositions (s : State) (q : List EgressPos) (c : Counter) : State :=
  q.foldl (fun s pos => (s.endPosition pos).count c) s

end Sys2Proof.Machine
end

