-- ==== Sys2Proof/Machine/Egress.lean ====
section
/-!
DEFINITION. The transmit sides: what a seat port (R133) and a radio link (R148, R149) start next, the
stale check (R159), and the pause judgement that makes a pause pending (R127).
-/

namespace Sys2Proof.Machine

/-- The stale check at dequeue (R159): a unicast record whose tenancy or attachment differs from its
entry's, or whose entry is not in PROBATION or LOCAL. A group frame meets no check. -/
def State.stale (s : State) (pos : EgressPos) : Bool :=
  match pos with
  | .group _ => false
  | .unicast r =>
    (s.client r.dest).tenancy != r.tenancy || !(s.client r.dest).state.served ||
      (s.client r.dest).attach != r.attach

/-- The head of a port's egress queue is delivered; heads that fail the stale check end their
positions, each counted in DOWN_STALE (R133, R159). -/
def State.seatServe (p : Fin 32) : List EgressPos → State → State
  | [], s => s.updSeat p (fun q => { q with queue := [] })
  | pos :: rest, s =>
    if s.stale pos then State.seatServe p rest ((s.endPosition pos).count Ctr.DOWN_STALE)
    else s.updSeat p (fun q => { q with queue := pos :: rest, tx := .delivering })

/-- The transmit side of a port looks for work (R133): in UP, IDLE and with link, the pending pause
first, then the egress queue if no received pause is in force. -/
def State.seatLook (s : State) (p : Fin 32) : State :=
  if (s.seat p).state = .up ∧ (s.seat p).tx = .idle ∧ (s.seat p).link = true then
    match (s.seat p).pendingPause with
    | some t => s.updSeat p (fun q => { q with pendingPause := none, tx := .sendingPause t })
    | none => if (s.seat p).rxPause = none then State.seatServe p (s.seat p).queue s else s
  else s

/-- Outstanding messages toward a radio: (S − T) mod 65536 (R144). -/
def RadioLink.outstanding (l : RadioLink) : Nat := (l.sent - l.taken).toNat

/-- The credit toward a radio (R144). -/
def RadioLink.credit (l : RadioLink) : Nat := l.buffer - l.outstanding

/-- The link is saturated (R149). -/
def RadioLink.saturated (l : RadioLink) : Bool := Config.saturation ≤ l.load

/-- The load degrade applies to the position: a group frame, or a unicast frame recorded with class
OPEN (R149, first check). -/
def EgressPos.degradable : EgressPos → Bool
  | .group _ => true
  | .unicast r => r.cls == .openNet

/-- The head of a radio's egress queue is sent; heads that fail the load degrade or the stale check
end their positions and are counted (R148, R149). -/
def State.radioServe (r : Fin 6) : List EgressPos → State → State
  | [], s => s.updRadio r (fun l => { l with queue := [] })
  | pos :: rest, s =>
    if (s.radio r).saturated && pos.degradable then
      State.radioServe r rest ((s.endPosition pos).count Ctr.RADIO_DEGRADE_DROP)
    else if s.stale pos then
      State.radioServe r rest ((s.endPosition pos).count Ctr.DOWN_STALE)
    else
      s.updRadio r (fun l => { l with queue := pos :: rest, tx := .sendingData, sent := l.sent + 1 })

/-- The transmit side of a link looks for work (R148): in UP and IDLE, the oldest pending DROP, then
with credit the egress queue. -/
def State.radioLook (s : State) (r : Fin 6) : State :=
  if (s.radio r).state = .up ∧ (s.radio r).tx = .idle then
    match (s.radio r).drops with
    | a :: rest => s.updRadio r (fun l => { l with drops := rest, tx := .sendingDrop a })
    | [] => if 0 < (s.radio r).credit then State.radioServe r (s.radio r).queue s else s
  else s

/-- The pause level H (R127). -/
def Settings.pauseLevel (c : Settings) : Nat := max (c.uplinkLimit - 16) (c.uplinkLimit / 2)

/-- The release level L (R127). -/
def Settings.releaseLevel (c : Settings) : Nat := c.uplinkLimit / 2

/-- The clients of an attachment: entries in PROBATION, LOCAL or LEAVING attached there (R125, R127). -/
def State.clientsAt (s : State) (a : Attachment) : List Client :=
  s.clients.toList.filter (fun c => c.state.present && c.attach == a)

/-- A port in UP judges its pause state (R127). -/
def State.judge (s : State) (p : Fin 32) : State :=
  if (s.seat p).state = .up then
    if (s.seat p).pausing = false ∧
        (s.clientsAt (.seat p)).any (fun c => s.cfg.pauseLevel ≤ c.blocks) = true then
      ((s.updSeat p (fun q =>
        { q with pausing := true, pendingPause := some 65535,
                 refreshTimer := s.after Config.refreshTicks })).count Ctr.SEAT_PAUSE_ON).seatLook p
    else if (s.seat p).pausing = true ∧
        (s.clientsAt (.seat p)).all (fun c => c.blocks < s.cfg.releaseLevel) = true then
      (s.updSeat p (fun q =>
        { q with pausing := false, pendingPause := some 0, refreshTimer := none })).seatLook p
    else s
  else s

/-- The port an attachment names, if it names one, judges its pause state (R127). -/
def State.judgeAt (s : State) (a : Attachment) : State :=
  match a with
  | .seat p => s.judge p
  | .radio _ => s

end Sys2Proof.Machine
end

