-- ==== Sys2Proof/Machine/Entries.lean ====
section
/-!
DEFINITION. The client table's own operations (Chapter 3): lookup, the freeing of queues and entries,
the end of a drain.
-/

namespace Sys2Proof.Machine

/-- The way of the address's bucket that is not FREE and holds the address, if any (R48). -/
def State.lookup (s : State) (a : Addr) : Option (Fin 256) :=
  (waysOf a).find? (fun i => (s.client i).state != .free && (s.client i).addr == a)

/-- The FREE way of the address's bucket with the lowest way number, if any (R49). -/
def State.freeWay (s : State) (a : Addr) : Option (Fin 256) :=
  (waysOf a).find? (fun i => (s.client i).state == .free)

/-- The priority of a class in the image. -/
def Settings.priority (c : Settings) (k : PClass) : Nat := c.priorities[k.num]

/-- The weight of a class in the image. -/
def Settings.weight (c : Settings) (k : PClass) : Nat := c.weights[k.num]

/-- Frees the uplink queue of an entry: its blocks return to the UPLINK pool and
CLIENT_QUEUE_DISCARD is counted once for each frame (R51). -/
def State.freeQueue (s : State) (i : Fin 256) : State :=
  ((s.releaseUplink (((s.client i).queue.map (·.frame.blocks)).flatten)).count
      Ctr.CLIENT_QUEUE_DISCARD (s.client i).queue.length).updClient i (fun c => { c with queue := [] })

/-- The fields of an entry that its freeing sets (R52). -/
def Client.freed (c : Client) : Client :=
  { c with state := .free, timer := none, pendingJoin := none, flapCount := 0, flapStart := none,
           quota := 0, used := 0, charged := false }

/-- An entry goes FREE (R52); if it was a client of a port, the port judges its pause state (R127). -/
def State.freeEntry (s : State) (i : Fin 256) : State :=
  let s1 := (s.freeQueue i).updClient i Client.freed
  if (s.client i).state.present = true then s1.judgeAt (s.client i).attach else s1

/-- An entry goes FREE with a CLIENT_LEFT notice, counted in `c` (R63, R65, R67, R69). -/
def State.freeWithNotice (s : State) (i : Fin 256) (r : LeftReason) (c : Counter) : State :=
  ((s.freeEntry i).postLeft i r).count c

/-- A LEAVING entry whose uplink queue is empty goes FREE with reason leave (R63). -/
def State.endDrainIfEmpty (s : State) (i : Fin 256) : State :=
  if (s.client i).state = .leaving ∧ (s.client i).queue = [] then
    s.freeWithNotice i .leave Ctr.CLIENT_LEFT_LEAVE
  else s

/-- An entry goes to LEAVING: its timer becomes the drain, CLIENT_LEAVING is counted, and an empty
queue takes it to FREE in the same event (R61). -/
def State.loseEntry (s : State) (i : Fin 256) : State :=
  ((s.updClient i (fun c => { c with state := .leaving, timer := s.after Config.drainTicks })).count
      Ctr.CLIENT_LEAVING).endDrainIfEmpty i

/-- A loss of attachment: each PROBATION or LOCAL entry attached there goes to LEAVING (R61), in
ascending index (log entry 11). -/
def State.loseAttachment (s : State) (a : Attachment) : State :=
  allEntries.foldl (fun s i =>
    if (s.client i).state.served = true ∧ (s.client i).attach = a then s.loseEntry i else s) s

/-- The entries in PROBATION, LOCAL or LEAVING: the client count (R33, R169). -/
def State.clientCount (s : State) : Nat := (s.clients.toList.filter (·.state.present)).length

/-- The port is at its client limit: its PROBATION and LOCAL entries have reached it (R58). -/
def State.atLimit (s : State) (p : Fin 32) : Bool :=
  s.cfg.clientsPerPort ≤
    (s.clients.toList.filter (fun c => c.state.served && c.attach == .seat p)).length

/-- The idle age of an entry becomes 0 (R60). -/
def State.heard (s : State) (i : Fin 256) : State :=
  s.updClient i (fun c => { c with heardAt := s.runNow })

end Sys2Proof.Machine
end

