-- ==== Sys2Proof/Machine/Scheduler.lean ====
section
/-!
DEFINITION. The uplink scheduler (Chapter 6): eligibility, selection, handover and the allotment
update.
-/

namespace Sys2Proof.Machine

/-- The two phases of a selection (R111). -/
inductive Phase
  | quota
  | spill
deriving DecidableEq, Repr

/-- An entry is eligible: PROBATION, LOCAL or LEAVING, with frames queued, in a class of priority
above 0 (R110). -/
def State.eligible (s : State) (c : Client) : Bool :=
  c.state.present && !c.queue.isEmpty && 0 < s.cfg.priority c.cls

/-- The candidates of a phase (R111). -/
def State.candidate (s : State) (ph : Phase) (c : Client) : Bool :=
  match ph with
  | .quota => s.eligible c && c.used < c.quota
  | .spill => s.eligible c

/-- The four classes, lowest class number first. -/
def allClasses : List PClass := [.crew, .premium, .standard, .openNet]

/-- The class of two that is served: the higher priority, the earlier (lower class number) on a tie
(R112). -/
def Settings.better (cfg : Settings) (a b : PClass) : PClass :=
  if cfg.priority a < cfg.priority b then b else a

/-- The class served in a phase: of highest priority among its candidates' classes (R112). -/
def State.chooseClass (s : State) (ph : Phase) : Option PClass :=
  match allClasses.filter (fun k =>
      s.clients.toList.any (fun c => s.candidate ph c && c.cls == k)) with
  | [] => none
  | k :: ks => some (ks.foldl s.cfg.better k)

/-- The pointer of a class in a phase. -/
def Scheduler.ptr (d : Scheduler) (ph : Phase) (k : PClass) : Fin 256 :=
  match ph with
  | .quota => d.quotaPtr[k.num]
  | .spill => d.spillPtr[k.num]

/-- The pointer of a class in a phase is set. -/
def Scheduler.setPtr (d : Scheduler) (ph : Phase) (k : PClass) (i : Fin 256) : Scheduler :=
  match ph with
  | .quota => { d with quotaPtr := d.quotaPtr.set k.num i }
  | .spill => { d with spillPtr := d.spillPtr.set k.num i }

/-- The order of the search: from the entry after the pointer, wrapping, to the pointer's own index
(R113). -/
def searchOrder (ptr : Fin 256) : List (Fin 256) :=
  (List.range 256).map (fun k => Fin.ofNat 256 (ptr.val + 1 + k))

/-- The entry served in a phase: the first candidate of the chosen class in the search (R112, R113). -/
def State.choose (s : State) (ph : Phase) : Option (Fin 256) :=
  match s.chooseClass ph with
  | none => none
  | some k =>
    (searchOrder (s.sched.ptr ph k)).find? (fun i =>
      s.candidate ph (s.client i) && (s.client i).cls == k)

/-- The counts of a handover, by phase (R114). -/
def State.countHandover (s : State) (ph : Phase) (b : Nat) : State :=
  match ph with
  | .quota => (s.count Ctr.SCHED_QUOTA_FRAMES).count Ctr.SCHED_QUOTA_BLOCKS b
  | .spill => (s.count Ctr.SCHED_SPILL_FRAMES).count Ctr.SCHED_SPILL_BLOCKS b

/-- The charge of a handover of `b` blocks to the carriage (R114). -/
def Scheduler.charge (d : Scheduler) (ph : Phase) (k : PClass) (i : Fin 256) (b : Nat) : Scheduler :=
  { d.setPtr ph k i with credit := d.credit - b, cycleCharge := d.cycleCharge + b }

/-- An entry after the handover of its head frame of `b` blocks; used rises in the quota phase only
(R114). -/
def Client.handedOver (c : Client) (ph : Phase) (b : Nat) : Client :=
  { c with queue := c.queue.tail
           charged := true
           used := if ph = .quota then min 65535 (c.used + b) else c.used }

/-- The handover of the head frame of entry `i` (R114): the charge, the pointer and the counters; then
the end of a drain whose queue this empties (R63), and the port's pause judgement (R127). -/
def State.handover (s : State) (i : Fin 256) (ph : Phase) (rec : UplinkRec) : State :=
  let b := rec.frame.size
  let s1 := (s.updClient i (fun c => c.handedOver ph b)).updSched
    (fun d => d.charge ph (s.client i).cls i b)
  ((s1.countHandover ph b).endDrainIfEmpty i).judgeAt (s.client i).attach

/-- The entry and phase that a selection serves: the quota phase first, and the spill phase only if it
has no candidate (R111). -/
def State.pick (s : State) : Option (Fin 256 × Phase) :=
  match s.choose .quota with
  | some i => some (i, .quota)
  | none =>
    match s.choose .spill with
    | some i => some (i, .spill)
    | none => none

/-- A selection request (R111): the state after it and the frame handed over, if any. -/
def State.selection (s : State) : State × Option UplinkRec :=
  if s.sched.credit ≤ 0 then
    (if s.clients.toList.any s.eligible then s.count Ctr.SCHED_NO_CREDIT else s, none)
  else
    match s.pick with
    | none => (s, none)
    | some (i, ph) =>
      match (s.client i).queue with
      | [] => (s, none)
      | rec :: _ => (s.handover i ph rec, some rec)

/-! ## The allotment update -/

/-- The allotment in effect that an update forms (R106). -/
def State.formAeff (s : State) (a : Nat) : Nat :=
  if s.op = .hold then 0
  else if s.tally.conflict = .conflict then s.cfg.floor
  else max a s.cfg.floor

/-- The refill: debt carried forward, surplus lost, each counted (R107). -/
def State.refill (s : State) (aeff : Nat) : State :=
  let c := s.sched.credit
  let s1 := if c < 0 then s.count Ctr.SCHED_DEBT_CYCLES
    else if 0 < c then s.count Ctr.SCHED_CREDIT_FORFEIT c.toNat
    else s
  s1.updSched (fun d => { d with aeff := aeff, credit := (aeff : Int) + min c 0 })

/-- An entry is active at an own cycle expiry (R32). -/
def Client.activeNow (c : Client) : Bool := c.state.present && (!c.queue.isEmpty || c.charged)

/-- The quota of an entry at an update (R108), with used and the charged mark reset (R109). -/
def Client.newCycle (cfg : Settings) (aeff w : Nat) (c : Client) : Client :=
  { c with quota := if c.activeNow && 0 < w then aeff * cfg.weight c.cls / w else 0
           used := 0
           charged := false }

/-- The allotment update (R106 to R109). The active entries are those of the same own cycle expiry:
nothing between its steps 3 and 7 changes a queue, a state or a charged mark (R34). -/
def State.allotmentUpdate (s : State) (a w : Nat) : State :=
  let aeff := s.formAeff a
  let s1 := s.refill aeff
  let s2 := { s1 with clients := s1.clients.map (Client.newCycle s.cfg aeff w) }
  (s2.updSched (fun d => { d with cycleCharge := 0 })).count Ctr.SCHED_UPDATES

end Sys2Proof.Machine
end

