-- ==== Sys2Proof/Machine/LineOps.lean ====
section
/-!
DEFINITION. The line interface's own operations (Chapter 1): the line state, the transmitter slot, the
send opportunity and the control queue.
-/

namespace Sys2Proof.Machine

/-- The part drives the line: an attempt is under way (1.3). -/
def LineIf.driving (l : LineIf) : Bool :=
  match l.slot with
  | some x => x.phase == .sending
  | none => false

/-- Carrier present rises at tick `now` (R8, R9). -/
def LineIf.riseAt (l : LineIf) (now : Nat) : LineIf :=
  { l with line := .busy, gapTimer := none, stuckTimer := some (now + Config.stuckTicks) }

/-- Carrier present falls at tick `now`: BUSY becomes GAP and the gap timer starts (R8); the stuck-line
timer stops (R9). -/
def LineIf.fallAt (l : LineIf) (now : Nat) : LineIf :=
  if l.line = .busy then
    { l with line := .gap, gapTimer := some (now + Config.gapTicks), stuckTimer := none }
  else { l with stuckTimer := none }

/-- The end of the part's own attempt is a fall of carrier, unless another station still drives the
line (R8, log entry 5). -/
def State.ownCarrierEnds (s : State) : State :=
  if s.line.carrier = true then s else s.updLine (·.fallAt s.now)

/-- The line state and the stuck-line timer at the end of a reset (R8, R9). -/
def LineIf.setFromCarrier (l : LineIf) (now : Nat) : LineIf :=
  if l.carrier = true then
    { l with line := .busy, gapTimer := none, stuckTimer := some (now + Config.stuckTicks) }
  else { l with line := .gap, gapTimer := some (now + Config.gapTicks), stuckTimer := none }

/-- The send sequence of a frame kind (R11). -/
def LineIf.seqOf (l : LineIf) : FrameKind → BitVec 8
  | .passenger => l.seqPassenger
  | .tally => l.seqTally
  | .claim => l.seqClaim
  | .release => l.seqRelease

/-- The send sequence of a frame kind advances by one, with wrap (R11). -/
def LineIf.bumpSeq (l : LineIf) : FrameKind → LineIf
  | .passenger => { l with seqPassenger := l.seqPassenger + 1 }
  | .tally => { l with seqTally := l.seqTally + 1 }
  | .claim => { l with seqClaim := l.seqClaim + 1 }
  | .release => { l with seqRelease := l.seqRelease + 1 }

/-- The slot takes a frame: attempt count 0, the sequence written and advanced, SENDING, and the part's
own carrier on the line (R10, R11). -/
def LineIf.take (l : LineIf) (c : Content) (now : Nat) : LineIf :=
  { ((l.bumpSeq c.kind).riseAt now) with
      slot := some { phase := .sending, content := c, seq := l.seqOf c.kind, attempts := 0 } }

/-- The next attempt of a waiting frame begins on the line (R16). -/
def LineIf.startAttempt (l : LineIf) (now : Nat) : LineIf :=
  { (l.riseAt now) with slot := l.slot.map (fun x => { x with phase := .sending }) }

/-- The three conditions of a send opportunity (R10). -/
def State.opportunity (s : State) : Bool :=
  s.line.slot.isNone && s.line.line == .idle && s.active

/-- The transmitter looks for a frame: at a send opportunity the slot takes the oldest control record,
or else what the scheduler hands over (R10). -/
def State.sendOpportunity (s : State) : State :=
  if s.opportunity = true then
    match s.line.queue with
    | r :: rest => s.updLine (fun l => { l with queue := rest }.take (.control r) s.now)
    | [] =>
      match s.selection with
      | (s', some rec) => s'.updLine (·.take (.passenger rec) s'.now)
      | (s', none) => s'
  else s

/-- The control queue with a posted TALLY in the place of the one waiting (R19). -/
def replaceTally (t : CtrlRec) : List CtrlRec → List CtrlRec
  | [] => []
  | r :: rest => if r.isTally then t :: rest else r :: replaceTally t rest

/-- A TALLY is placed in the control queue (R19). -/
def State.placeTally (s : State) (t : CtrlRec) : State :=
  if s.line.queue.any (·.isTally) = true then
    (s.updLine (fun l => { l with queue := replaceTally t l.queue })).count Ctr.LINE_TALLY_MISSED
  else if s.line.queue.length < Config.controlQueueCap then
    s.updLine (fun l => { l with queue := l.queue ++ [t] })
  else s.count Ctr.LINE_TALLY_MISSED

/-- A CLAIM or RELEASE is placed in the control queue (R18). -/
def State.placeControl (s : State) (r : CtrlRec) : State :=
  if s.line.queue.length < Config.controlQueueCap then
    s.updLine (fun l => { l with queue := l.queue ++ [r] })
  else s.count Ctr.LINE_CONTROL_DROPPED

/-- A record is posted to the control queue, which is an event at which the transmitter looks for a
frame (R10, R17, R18, R19). -/
def State.postControl (s : State) (r : CtrlRec) : State :=
  (if r.isTally then s.placeTally r else s.placeControl r).sendOpportunity

/-- The discard of a frame at its 12th collision (R15). -/
def State.discardExcess (s : State) (c : Content) : State :=
  match c with
  | .passenger rec =>
    ((s.releaseUplink rec.frame.blocks).count Ctr.LINE_TX_DISCARDED).raiseAlert
      Alert.LINE_EXCESS_COLLISIONS
  | .control r =>
    if r.isTally then (s.count Ctr.LINE_CONTROL_LOST).count Ctr.LINE_TALLY_MISSED
    else s.count Ctr.LINE_CONTROL_LOST

/-- The discard of a passenger frame by Hold (R20). -/
def State.discardHold (s : State) (rec : UplinkRec) : State :=
  (s.releaseUplink rec.frame.blocks).count Ctr.LINE_HOLD_DISCARD

/-- The slot becomes EMPTY. -/
def State.emptySlot (s : State) : State :=
  s.updLine (fun l => { l with slot := none, backoffTimer := none })

/-- The number of backoff slots drawn for the n-th draw after `attempts` collisions: a value of
0..2^m − 1 with m = min(attempts, 8) (R14, log entry 3). -/
def backoffSlots (draw attempts : Nat) : Nat := Config.backoffDraw draw % 2 ^ min attempts 8

/-- An aborted attempt goes to BACKOFF with attempt count `n` and the backoff timer started at `k` slots (R14). -/
def State.startBackoff (s : State) (x : Slot) (n k : Nat) : State :=
  { s.updLine (fun l =>
      { l with slot := some { x with phase := .backoff, attempts := n }
               backoffTimer := s.after (k * Config.slotTicks) })
    with draws := s.draws + 1 }

/-- An aborted attempt goes to BACKOFF with attempt count `n` and a drawn backoff; the expiry of a timer of zero
length follows the collision at once (R14). -/
def State.drawBackoff (s : State) (x : Slot) (n : Nat) : State :=
  let k := backoffSlots s.draws n
  let s1 := s.startBackoff x n k
  if k = 0 then s1.expiresAtOnce .backoffTimerExpiry else s1

/-- A collision during SENDING (R14, R15, R20). In Hold a passenger frame is discarded under R20 at every
collision, its 12th too, with LINE_HOLD_DISCARD alone: R15 speaks of the 12th collision and does not except Hold,
so this is the model's choice (DESIGN CHOICE, log entry 32). In Hold means that the part is in HOLD at the
collision: a frame that was SENDING at Hold entry and collides after Hold exit follows R14 and R15, which R20
leaves open (DESIGN CHOICE, log entry 34). -/
def State.collide (s : State) (x : Slot) : State :=
  let s1 := (s.count Ctr.LINE_TX_COLLISIONS).ownCarrierEnds
  let n := x.attempts + 1
  match x.content with
  | .passenger rec =>
    if s.op = .hold then ((s1.discardHold rec).emptySlot).sendOpportunity
    else if Config.attemptLimit ≤ n then ((s1.discardExcess x.content).emptySlot).sendOpportunity
    else s1.drawBackoff x n
  | .control _ =>
    if Config.attemptLimit ≤ n then ((s1.discardExcess x.content).emptySlot).sendOpportunity
    else s1.drawBackoff x n

/-- The completion of an attempt (R12). -/
def State.complete (s : State) (x : Slot) : State :=
  let s1 := match x.content with
    | .passenger rec => (s.releaseUplink rec.frame.blocks).count Ctr.LINE_TX_PASSENGER
    | .control _ => s.count Ctr.LINE_TX_CONTROL
  (s1.ownCarrierEnds.emptySlot).sendOpportunity

/-- Hold entry at the line interface: a passenger frame in BACKOFF or DEFER is discarded (R20). -/
def State.lineHoldEntry (s : State) : State :=
  match s.line.slot with
  | some { phase := .backoff, content := .passenger rec, .. } =>
    ((s.discardHold rec).emptySlot).sendOpportunity
  | some { phase := .defer, content := .passenger rec, .. } =>
    ((s.discardHold rec).emptySlot).sendOpportunity
  | _ => s

end Sys2Proof.Machine
end

