-- ==== Sys2Proof/Machine/ClaimOps.lean ====
section
/-!
DEFINITION. The requests the attachments put to the client table and the claim protocol (Chapters 3
and 4).
-/

namespace Sys2Proof.Machine

/-- A CLAIM is posted for an entry: the claim sequence rises, the entry takes the number, and the
record carries the address, the number and the class (R71). -/
def State.postClaim (s : State) (i : Fin 256) : State :=
  let n := s.claimSeq + 1
  let s1 := (({ s with claimSeq := n }).updClient i (fun c => { c with claimNum := n })).count
    Ctr.CLAIM_POSTED
  s1.postControl (.claim (s1.client i).addr n (s1.client i).cls)

/-- The class a client takes where it arrives: the port's, or the one its network index maps to
(R53). -/
def Settings.classAt (cfg : Settings) (a : Attachment) (net : Option (Fin 4)) : PClass :=
  match a with
  | .seat p => cfg.portClasses[p]
  | .radio _ => match net with
    | some k => cfg.netClasses[k]
    | none => .crew

/-- The hold-off that starts now (R72). -/
def State.holdOff (s : State) : Timer := s.after (Config.msTicks s.cfg.holdOffMs)

/-- An entry as an admission sets it (R53); the claim number is set at the posting of the CLAIM. -/
def State.admitted (s : State) (a : Addr) (att : Attachment) (net : Option (Fin 4)) (c : Client) :
    Client :=
  { addr := a
    state := .probation
    tenancy := c.tenancy + 1
    attach := att
    cls := s.cfg.classAt att net
    net := net
    claimNum := c.claimNum
    heardAt := s.runNow
    timer := s.holdOff }

/-- An admission (R53), or its refusal for want of a FREE way (R49). The answer is the way taken. -/
def State.admission (s : State) (a : Addr) (att : Attachment) (net : Option (Fin 4)) :
    State × Option (Fin 256) :=
  match s.freeWay a with
  | none =>
    (((s.count Ctr.CLIENT_NO_ROOM).raiseAlert Alert.CLIENT_TABLE_FULL).postNotice (.tableFull a att),
      none)
  | some i =>
    (((((s.updClient i (s.admitted a att net)).postClaim i).postAdded i).count
        Ctr.CLIENT_ADMITTED).judgeAt att, some i)

/-- An entry is put on an attachment with a network index, heard now (R59, R64). -/
def State.attachTo (s : State) (i : Fin 256) (att : Attachment) (net : Option (Fin 4)) : State :=
  s.updClient i (fun c => { c with attach := att, net := net, heardAt := s.runNow })

/-- An in-carriage move (R59): the port left and the port reached judge their pause state (R127). -/
def State.moveEntry (s : State) (i : Fin 256) (att : Attachment) (net : Option (Fin 4)) : State :=
  let old := (s.client i).attach
  ((((s.attachTo i att net).postAttachment i).count Ctr.CLIENT_MOVES).judgeAt old).judgeAt att

/-- A LEAVING entry returns to LOCAL on an attachment (R64). If the attachment is another one, the port
left and the port reached judge their pause state (R127). -/
def State.returnEntry (s : State) (i : Fin 256) (att : Attachment) (net : Option (Fin 4)) : State :=
  let old := (s.client i).attach
  let s1 := (((s.attachTo i att net).updClient i (fun c =>
    { c with state := .localHeld, timer := none })).count Ctr.CLIENT_RETURNS).postAttachment i
  if old = att then s1 else (s1.judgeAt old).judgeAt att

/-- The flap window of an entry is open (R85): from its start until 10 s later. At that last moment itself it
counts as ended, which the manual leaves open (DESIGN CHOICE, log entry 33). -/
def State.flapOpen (s : State) (c : Client) : Bool :=
  match c.flapStart with
  | none => false
  | some t => s.now < t + Config.flapTicks

/-- The first step of a reclaim request: a window is opened if none is open (R85). -/
def State.openFlap (s : State) (i : Fin 256) : State :=
  if s.flapOpen (s.client i) = true then s
  else s.updClient i (fun c => { c with flapCount := 0, flapStart := some s.now })

/-- The entry is in flap hold: its window is open and its count is 3 (R85, R88). -/
def State.inFlapHold (s : State) (i : Fin 256) : Bool :=
  s.flapOpen (s.client i) && Config.flapLimit ≤ (s.client i).flapCount

/-- A reclaim of a MOVED entry (R86). -/
def State.reclaim (s : State) (i : Fin 256) (att : Attachment) (net : Option (Fin 4)) : State :=
  ((((s.updClient i (fun c =>
      { c with state := .probation, timer := s.holdOff, pendingJoin := none, attach := att, net := net
               cls := s.cfg.classAt att net, heardAt := s.runNow
               flapCount := c.flapCount + 1 })).postClaim i).postAdded i).count
    Ctr.CLAIM_RECLAIMS).judgeAt att

/-- Under flap hold a tombstone due before the end of the flap window is moved to it (R88). -/
def Client.stretchTombstone (c : Client) : Client :=
  match c.timer, c.flapStart with
  | some due, some t => { c with timer := some (max due (t + Config.flapTicks)) }
  | _, _ => c

/-- The client table's answer to a seat frame (R54, R57, R88). -/
inductive SeatAnswer
  | queue (entry : Fin 256)
  | barred
  | unadmitted
  | noRoom
  | flapHold
deriving DecidableEq, Repr

/-- QUEUE to an entry that was just heard, or BARRED where its class has priority 0 (R54, R57). -/
def State.answerQueue (s : State) (i : Fin 256) : State × SeatAnswer :=
  let s1 := s.heard i
  if s1.cfg.priority (s1.client i).cls = 0 then (s1.count Ctr.CLIENT_RX_BARRED, .barred)
  else (s1, .queue i)

/-- A seat port at its client limit refuses (R54, R58). -/
def State.refuseLimit (s : State) : State × SeatAnswer :=
  (s.count Ctr.CLIENT_LIMIT_REFUSED, .unadmitted)

/-- A seat frame's source address found in MOVED: reclaim, refusal at the port's limit, or flap hold
(R85, R86, R88). -/
def State.seatReclaim (s : State) (p : Fin 32) (i : Fin 256) : State × SeatAnswer :=
  let s1 := s.openFlap i
  if s1.inFlapHold i = true then
    ((s1.updClient i Client.stretchTombstone).count Ctr.CLAIM_FLAP_DROPPED, .flapHold)
  else if s1.atLimit p = true then s1.refuseLimit
  else (s1.reclaim i (.seat p) none).answerQueue i

/-- A seat frame's source address from port `p` (R54). -/
def State.seatLookup (s : State) (p : Fin 32) (a : Addr) : State × SeatAnswer :=
  if isGroupAddr a = true then (s, .unadmitted)
  else
    match s.lookup a with
    | none =>
      if s.atLimit p = true then s.refuseLimit
      else
        match s.admission a (.seat p) none with
        | (s1, some i) => s1.answerQueue i
        | (s1, none) => (s1, .noRoom)
    | some i =>
      match (s.client i).state with
      | .moved => s.seatReclaim p i
      | .leaving =>
        if s.atLimit p = true then s.refuseLimit
        else (s.returnEntry i (.seat p) none).answerQueue i
      | _ =>
        if (s.client i).attach = .seat p then s.answerQueue i
        else if s.atLimit p = true then s.refuseLimit
        else (s.moveEntry i (.seat p) none).answerQueue i

/-- A JOIN whose lookup finds MOVED: reclaim, or stored as the pending reattachment (R86, R88). -/
def State.joinReclaim (s : State) (r : Fin 6) (net : Fin 4) (i : Fin 256) : State :=
  let s1 := s.openFlap i
  if s1.inFlapHold i = true then
    (s1.updClient i (fun c => { c.stretchTombstone with pendingJoin := some (r, net) })).count
      Ctr.CLAIM_FLAP_DEFERRED
  else s1.reclaim i (.radio r) (some net)

/-- A radio JOIN (R55). -/
def State.join (s : State) (r : Fin 6) (a : Addr) (net : Fin 4) : State :=
  match s.lookup a with
  | none => (s.admission a (.radio r) (some net)).1
  | some i =>
    match (s.client i).state with
    | .moved => s.joinReclaim r net i
    | .leaving => s.returnEntry i (.radio r) (some net)
    | _ =>
      if (s.client i).attach = .radio r then s.attachTo i (.radio r) (some net)
      else s.moveEntry i (.radio r) (some net)

/-- A radio LEAVE (R62). -/
def State.leave (s : State) (r : Fin 6) (a : Addr) : State :=
  match s.lookup a with
  | none => s.count Ctr.CLIENT_LEAVE_STRAY
  | some i =>
    if (s.client i).state.served = true ∧ (s.client i).attach = .radio r then s.loseEntry i
    else s.count Ctr.CLIENT_LEAVE_STRAY

/-- A frame taken in for an entry meets the client uplink limit and the pool, and joins the tail of the
entry's uplink queue (R94, R126, R145). `limitCtr` and `queuedCtr` are the attachment's counters. -/
def State.takeUplink (s : State) (i : Fin 256) (data : List Byte) (limitCtr queuedCtr : Counter) :
    State :=
  if s.cfg.uplinkLimit < (s.client i).blocks + blocksFor data.length then s.count limitCtr
  else
    match s.allocUplink data.length with
    | (s1, none) => s1
    | (s1, some blocks) =>
      let up : UplinkRec :=
        { frame := { blocks := blocks, data := data }, cls := (s1.client i).cls, owner := i }
      ((((s1.updClient i (fun c => { c with queue := c.queue ++ [up] })).count queuedCtr).judgeAt
        (s1.client i).attach)).sendOpportunity

/-- An entry is given up to a claimant (R75). -/
def State.giveUp (s : State) (i : Fin 256) (num : BitVec 8) (claimant : Nat) : State :=
  let n := (s.client i).queue.length
  let s1 := (s.freeQueue i).updClient i (fun c =>
    { c with state := .moved, quota := 0, used := 0, charged := false
             timer := s.after (Config.secTicks s.cfg.tombstoneS) })
  let s2 := (s1.count Ctr.RELEASE_POSTED).postControl (.release (s1.client i).addr num n claimant)
  ((s2.postNotice (.clientMovedAway i (s1.client i).tenancy (s1.client i).addr (s1.client i).attach
      claimant)).count Ctr.CLAIM_GIVEN_UP).judgeAt (s1.client i).attach

/-- A counter-claim, or its suppression while a CLAIM for the address is queued (R77). -/
def State.counterClaim (s : State) (i : Fin 256) : State :=
  if s.line.queue.any (CtrlRec.isClaimFor (s.client i).addr) = true then
    s.count Ctr.CLAIM_COUNTER_SUPPRESSED
  else (s.count Ctr.CLAIM_COUNTER).postClaim i

/-- A CLAIM from another station (R73). -/
def State.claimArrival (s0 : State) (a : Addr) (num : BitVec 8) (claimant : Nat) : State :=
  let s := s0.count Ctr.CLAIM_RX
  match s.lookup a with
  | none => s.count Ctr.CLAIM_RX_IGNORED
  | some i =>
    match (s.client i).state with
    | .localHeld => s.giveUp i num claimant
    | .leaving => s.giveUp i num claimant
    | .probation =>
      if s.cfg.station < claimant then s.giveUp i num claimant else s.counterClaim i
    | _ => s.count Ctr.CLAIM_RX_IGNORED

/-- An entry in PROBATION becomes LOCAL: its timer is stopped and its idle age is 0 (R72, R80). -/
def State.makeLocal (s : State) (i : Fin 256) : State :=
  s.updClient i (fun c => { c with state := .localHeld, timer := none, heardAt := s.runNow })

/-- A RELEASE (R80). -/
def State.releaseArrival (s : State) (a : Addr) (num : BitVec 8) (discard : Nat) : State :=
  match s.lookup a with
  | none => s.count Ctr.RELEASE_RX_IGNORED
  | some i =>
    if (s.client i).state = .probation ∧ (s.client i).claimNum = num then
      ((s.makeLocal i).count Ctr.RELEASE_RX_MATCHED).count Ctr.RELEASE_PEER_DISCARDS discard
    else s.count Ctr.RELEASE_RX_IGNORED

/-- The expiry of a tombstone (R84). -/
def State.endTombstone (s : State) (i : Fin 256) : State :=
  match (s.client i).pendingJoin with
  | none => (s.freeEntry i).count Ctr.CLAIM_TOMBSTONE_FREED
  | some (r, net) =>
    if (s.radio r).state = .up then
      (((s.updClient i (fun c =>
        { c with state := .probation, attach := .radio r, net := some net
                 cls := s.cfg.classAt (.radio r) (some net), heardAt := s.runNow, timer := s.holdOff
                 pendingJoin := none, flapCount := 1, flapStart := some s.now })).postClaim i).postAdded
          i).count Ctr.CLAIM_PENDING_TAKEN
    else (s.freeEntry i).count Ctr.CLAIM_PENDING_LAPSED

end Sys2Proof.Machine
end

