-- ==== Sys2Proof/Machine/SeatOps.lean ====
section
/-!
DEFINITION. The seat port unit's own operations (Chapter 7): presence, ingress, pause, quarantine and
Hold.
-/

namespace Sys2Proof.Machine

/-- A flush of a port's egress queue: every position ends, oldest first, a pause under way is cut off,
and the transmit side is IDLE (R135). -/
def State.flushSeat (s : State) (p : Fin 32) : State :=
  (s.endPositions (s.seat p).queue Ctr.SEAT_EGRESS_FLUSHED).updSeat p
    (fun q => { q with queue := [], tx := .idle })

/-- The timers and pauses a port stops on leaving UP (R123, R131). -/
def SeatPort.stopped (q : SeatPort) : SeatPort :=
  { q with faultWindow := none, refreshTimer := none, rxPause := none, pausing := false
           pendingPause := none }

/-- A port goes from UP to ABSENT (R123). -/
def State.seatDown (s : State) (p : Fin 32) : State :=
  (((s.updSeat p (fun q => { q.stopped with state := .absent, reading := 0 })).flushSeat p).count
    Ctr.SEAT_LINK_DOWN).loseAttachment (.seat p)

/-- A port goes from SETTLING to ABSENT, with its loss report (R122, R123, R137). -/
def State.seatUnsettled (s : State) (p : Fin 32) : State :=
  (s.updSeat p (fun q => { q with state := .absent, reading := 0, exitMark := false })).loseAttachment
    (.seat p)

/-- A port goes to UP (R122). -/
def State.seatUp (s : State) (p : Fin 32) : State :=
  (s.updSeat p (fun q =>
    { q with state := .up, reading := 0, exitMark := false, speed := q.phySpeed
             faultWindow := s.after Config.faultTicks, bad := 0, unadmitted := 0
             pausing := false, pendingPause := none, rxPause := none, tx := .idle, queue := [] })).count
    Ctr.SEAT_LINK_UP

/-- A port goes from UP to QUIET (R131). -/
def State.seatQuiet (s : State) (p : Fin 32) : State :=
  ((((((s.updSeat p (fun q => { q.stopped with state := .quiet })).flushSeat p).loseAttachment
      (.seat p)).raiseAlert Alert.PORT_QUIET).count Ctr.SEAT_QUIET_ENTRIES)).updSeat p
    (fun q => { q with quietTimer := s.after Config.quietTicks })

/-- One port's reading of its link indication (R122). -/
def State.readPort (s : State) (p : Fin 32) : State :=
  let q := s.seat p
  match q.state, q.link with
  | .absent, true => s.updSeat p (fun q => { q with state := .settling, reading := 1 })
  | .absent, false => s
  | .settling, true =>
    if q.reading < 2 then s.updSeat p (fun q => { q with reading := q.reading + 1 }) else s.seatUp p
  | .settling, false =>
    if q.exitMark = true then s.updSeat p (fun q => { q with reading := 0 }) else s.seatUnsettled p
  | .up, true => s.updSeat p (fun q => { q with reading := 0 })
  | .up, false =>
    if q.reading < 2 then s.updSeat p (fun q => { q with reading := q.reading + 1 }) else s.seatDown p
  | .quiet, _ => s
  | .held, _ => s

/-- A frame dropped as bad (R124 step 2, R130). -/
def State.seatBad (s : State) (p : Fin 32) : State :=
  let s1 := (s.count Ctr.SEAT_RX_BAD).updSeat p (fun q => { q with bad := q.bad + 1 })
  if Config.badLimit ≤ (s1.seat p).bad then s1.seatQuiet p else s1

/-- A frame answered UNADMITTED or NO_ROOM (R125, R130). -/
def State.seatUnadmitted (s : State) (p : Fin 32) : State :=
  let s1 := (s.count Ctr.SEAT_RX_UNADMITTED).updSeat p (fun q => { q with unadmitted := q.unadmitted + 1 })
  if Config.unadmittedLimit ≤ (s1.seat p).unadmitted then s1.seatQuiet p else s1

/-- Ticks of `q` pause quanta of 512 bit times at a speed: 5.12 µs each at 100 Mb/s, 51.2 µs at
10 Mb/s (7.4). -/
def quantaTicks (speed : Speed) (q : Nat) : Nat :=
  match speed with
  | .mb100 => q * 64
  | .mb10 => q * 640

/-- A pause frame received from the seat, of time `q` (R129). -/
def State.seatPaused (s : State) (p : Fin 32) (q : Nat) : State :=
  if q = 0 then (s.updSeat p (fun x => { x with rxPause := none })).seatLook p
  else s.updSeat p (fun x => { x with rxPause := s.after (quantaTicks x.speed q) })

/-- What a frame from a seat is, by steps 2 to 4 of its taking (R124). -/
inductive SeatFrame
  | bad
  | pause (time : Nat)
  | control
  | passenger (source : Addr)
deriving DecidableEq, Repr

/-- A seat frame's kind: FCS and length first, then MAC control, then the source address (R124). The pause
time is read most significant byte first, which chapter 7 does not state (PRESUMED, log entry 30). -/
def classifySeat (bytes : List Byte) : SeatFrame :=
  if bytes.length < 64 ∨ 1522 < bytes.length ∨ fcsPasses bytes = false then .bad
  else if fieldBE bytes 12 2 = 0x8808 then
    if fieldBE bytes 14 2 = 1 then .pause (fieldBE bytes 16 2) else .control
  else .passenger (addrAt bytes 6)

/-- The port's action on the client table's answer (R125, R126). -/
def State.seatAnswer (s : State) (p : Fin 32) (bytes : List Byte) : SeatAnswer → State
  | .queue i => s.takeUplink i bytes Ctr.SEAT_RX_LIMIT_DROP Ctr.SEAT_RX_QUEUED
  | .barred => s
  | .unadmitted => s.seatUnadmitted p
  | .noRoom => s.seatUnadmitted p
  | .flapHold => s

/-- A frame arriving at a port in UP (R124 steps 2 to 4). -/
def State.seatIngress (s : State) (p : Fin 32) (bytes : List Byte) : State :=
  match classifySeat bytes with
  | .bad => s.seatBad p
  | .pause q => (s.count Ctr.SEAT_RX_PAUSE).seatPaused p q
  | .control => s.count Ctr.SEAT_RX_CONTROL
  | .passenger src =>
    match s.seatLookup p src with
    | (s1, ans) => s1.seatAnswer p bytes ans

/-- A frame arriving at a port (R124). -/
def State.seatFrame (s : State) (p : Fin 32) (bytes : List Byte) : State :=
  match (s.seat p).state with
  | .held => s
  | .up => s.seatIngress p bytes
  | _ => s.count Ctr.SEAT_RX_IGNORED

/-- The completion of a delivery (R134). -/
def State.seatDelivered (s : State) (p : Fin 32) : State :=
  match (s.seat p).queue with
  | [] => s
  | pos :: rest =>
    (((s.endPosition pos).updSeat p (fun q => { q with queue := rest, tx := .idle })).count
      Ctr.SEAT_TX_FRAMES).seatLook p

/-- The fall of the link indication (R134). -/
def State.seatLinkFall (s : State) (p : Fin 32) : State :=
  let s1 := s.updSeat p (fun q => { q with link := false })
  match (s1.seat p).tx with
  | .idle => s1
  | .sendingPause t =>
    s1.updSeat p (fun q => { q with tx := .idle, pendingPause := q.pendingPause.or (some t) })
  | .delivering =>
    match (s1.seat p).queue with
    | [] => s1
    | pos :: rest =>
      ((s1.endPosition pos).updSeat p (fun q => { q with queue := rest, tx := .idle })).count
        Ctr.SEAT_TX_LOST

/-- Hold entry at a port (R136). -/
def State.seatHold (s : State) (p : Fin 32) : State :=
  let s1 := if (s.seat p).state = .up then s.flushSeat p else s
  s1.updSeat p (fun q =>
    { q.stopped with state := .held, reading := 0, bad := 0, unadmitted := 0, quietTimer := none })

/-- Hold exit at a port (R137). -/
def State.seatHoldExit (s : State) (p : Fin 32) : State :=
  if (s.seat p).state = .held then
    s.updSeat p (fun q => { q with state := .settling, reading := 0, exitMark := true })
  else s

/-- The expiry of the exit settle window at a port (R137). -/
def State.seatSettleEnd (s : State) (p : Fin 32) : State :=
  if (s.seat p).state = .settling ∧ (s.seat p).exitMark = true then s.seatUnsettled p else s

/-- A port after a reset: HELD, with its fields as R121 sets them and its PHY inputs kept. -/
def SeatPort.reset (q : SeatPort) : SeatPort := { link := q.link, phySpeed := q.phySpeed }

end Sys2Proof.Machine
end

