-- ==== Sys2Proof/Machine/RadioOps.lean ====
section
/-!
DEFINITION. The radio link unit's own operations (Chapter 8): messages, up and down, credit, DROP
messages and Hold.
-/

namespace Sys2Proof.Machine

/-- A message from a radio head that passes its checks (8.1). -/
inductive RadioMsg
  | data (frame : List Byte)
  | status (load buffer : Nat) (taken : BitVec 16)
  | join (addr : Addr) (net : Fin 4)
  | leave (addr : Addr) (timedOut : Bool)
deriving DecidableEq, Repr

/-- The body of a message by kind code, or `none` where a check of R140 steps 3 to 5 fails. -/
def radioBody (kind : Nat) (body : List Byte) : Option RadioMsg :=
  match kind with
  | 1 => if 64 ≤ body.length ∧ body.length ≤ 1522 then some (.data body) else none
  | 2 =>
    if body.length = 6 ∧ fieldBE body 0 1 ≤ 15 ∧ 1 ≤ fieldBE body 2 2 ∧ fieldBE body 2 2 ≤ 1024 then
      some (.status (fieldBE body 0 1) (fieldBE body 2 2) (BitVec.ofNat 16 (fieldBE body 4 2)))
    else none
  | 3 =>
    if body.length = 8 ∧ isGroupAddr (addrAt body 0) = false then
      if h : fieldBE body 6 1 < 4 then some (.join (addrAt body 0) ⟨fieldBE body 6 1, h⟩) else none
    else none
  | 4 =>
    if body.length = 8 ∧ isGroupAddr (addrAt body 0) = false then
      if fieldBE body 6 1 = 1 then some (.leave (addrAt body 0) false)
      else if fieldBE body 6 1 = 2 then some (.leave (addrAt body 0) true)
      else none
    else none
  | _ => none

/-- A message with its 4-byte header and its check (R140 steps 1 to 5). -/
def parseRadio (bytes : List Byte) : Option RadioMsg :=
  if bytes.length < 8 ∨ checkPasses bytes = false then none
  else if fieldBE bytes 2 2 % 2048 ≠ bytes.length - 8 then none
  else radioBody (fieldBE bytes 0 1) ((bytes.drop 4).take (bytes.length - 8))

/-- A STATUS taken in DOWN (R141). -/
def State.statusDown (s : State) (r : Fin 6) (load buffer : Nat) (t : BitVec 16) : State :=
  ((s.updRadio r (fun l =>
    { l with state := .up, load := load, buffer := buffer, taken := t, sent := t
             liveness := s.after Config.livenessTicks, tx := .idle, drops := [], queue := [] })).count
    Ctr.RADIO_LINK_UP).count Ctr.RADIO_RX_STATUS

/-- A link after a STATUS in UP: T ahead of S resyncs S (R142). -/
def RadioLink.withStatus (l : RadioLink) (load buffer : Nat) (t : BitVec 16) (live : Timer) : RadioLink :=
  { l with liveness := live, load := load, buffer := buffer, taken := t
           sent := if ahead16 t l.sent = true then t else l.sent }

/-- A STATUS taken in UP (R142); one that leaves the credit at 0 with frames queued counts
RADIO_NO_CREDIT, and the transmit side looks for work (R148). -/
def State.statusUp (s : State) (r : Fin 6) (load buffer : Nat) (t : BitVec 16) : State :=
  let resync := ahead16 t (s.radio r).sent
  let s1 := s.updRadio r (·.withStatus load buffer t (s.after Config.livenessTicks))
  let s2 := if resync = true then s1.count Ctr.RADIO_RESYNC else s1
  let s3 := s2.count Ctr.RADIO_RX_STATUS
  let s4 := if (s3.radio r).credit = 0 ∧ (s3.radio r).queue ≠ [] then s3.count Ctr.RADIO_NO_CREDIT else s3
  s4.radioLook r

/-- A DATA message taken in UP (R145, R56, R57). -/
def State.radioData (s : State) (r : Fin 6) (frame : List Byte) : State :=
  match if isGroupAddr (addrAt frame 6) = true then none else s.lookup (addrAt frame 6) with
  | none => s.count Ctr.RADIO_RX_UNASSOCIATED
  | some i =>
    if (s.client i).state.present = true ∧ (s.client i).attach = .radio r then
      match s.answerQueue i with
      | (s1, .queue i) => s1.takeUplink i frame Ctr.RADIO_RX_LIMIT_DROP Ctr.RADIO_RX_QUEUED
      | (s1, _) => s1
    else s.count Ctr.RADIO_RX_UNASSOCIATED

/-- A LEAVE taken in UP, counted by its reason (R146). -/
def State.radioLeave (s : State) (r : Fin 6) (a : Addr) (timedOut : Bool) : State :=
  (s.count (if timedOut = true then Ctr.RADIO_LEAVE_TIMEOUT else Ctr.RADIO_LEAVE_LEFT)).leave r a

/-- A message that passed its checks, at a link in UP (R140). -/
def State.radioTaken (s : State) (r : Fin 6) : RadioMsg → State
  | .data frame => s.radioData r frame
  | .status load buffer t => s.statusUp r load buffer t
  | .join a net => (s.count Ctr.RADIO_RX_JOIN).join r a net
  | .leave a timedOut => s.radioLeave r a timedOut

/-- A message arriving at a link (R140). -/
def State.radioMessage (s : State) (r : Fin 6) (bytes : List Byte) : State :=
  match (s.radio r).state with
  | .held => s
  | .down =>
    match parseRadio bytes with
    | none => s.count Ctr.RADIO_RX_BAD
    | some (.status load buffer t) => s.statusDown r load buffer t
    | some _ => s.count Ctr.RADIO_RX_IGNORED
  | .up =>
    match parseRadio bytes with
    | none => s.count Ctr.RADIO_RX_BAD
    | some m => s.radioTaken r m

/-- The message under way is cut off: a DATA message is counted in RADIO_TX_CUT, and a DROP is lost with
the pending list (R143, R150; log entry 12). -/
def State.cutRadio (s : State) (r : Fin 6) : State :=
  match (s.radio r).tx with
  | .idle => s
  | .sendingData => s.count Ctr.RADIO_TX_CUT
  | .sendingDrop _ => s.count Ctr.RADIO_DROP_LOST

/-- A link stops: its message is cut off, its egress queue flushed and its pending DROPs discarded, each
counted (R143, R152). -/
def State.stopRadio (s : State) (r : Fin 6) : State :=
  (((s.cutRadio r).endPositions (s.radio r).queue Ctr.RADIO_EGRESS_FLUSHED).count Ctr.RADIO_DROP_LOST
    (s.radio r).drops.length).updRadio r
      (fun l => { l with liveness := none, tx := .idle, queue := [], drops := [] })

/-- A link goes from UP to DOWN, counted in `c` (R143). -/
def State.radioDown (s : State) (r : Fin 6) (c : Counter) : State :=
  ((((s.count c).stopRadio r).updRadio r (fun l => { l with state := .down })).loseAttachment
    (.radio r)).raiseAlert Alert.RADIO_DOWN

/-- The completion of a message (R150). -/
def State.radioComplete (s : State) (r : Fin 6) : State :=
  match (s.radio r).tx with
  | .idle => s
  | .sendingDrop _ =>
    ((s.updRadio r (fun l => { l with tx := .idle })).count Ctr.RADIO_TX_DROP).radioLook r
  | .sendingData =>
    match (s.radio r).queue with
    | [] => s
    | pos :: rest =>
      (((s.endPosition pos).updRadio r (fun l => { l with queue := rest, tx := .idle })).count
        Ctr.RADIO_TX_FRAMES).radioLook r

/-- An evicted client's address is handed to a link (R151). -/
def State.handDrop (s : State) (r : Fin 6) (a : Addr) : State :=
  if (s.radio r).state = .up ∧ (s.radio r).drops.length < Config.dropCap then
    (s.updRadio r (fun l => { l with drops := l.drops ++ [a] })).radioLook r
  else s.count Ctr.RADIO_DROP_LOST

/-- Hold entry at a link (R152). -/
def State.radioHold (s : State) (r : Fin 6) : State :=
  (s.stopRadio r).updRadio r (fun l => { l with state := .held })

/-- Hold exit at a link: DOWN with a loss report (R152). -/
def State.radioHoldExit (s : State) (r : Fin 6) : State :=
  if (s.radio r).state = .held then
    (s.updRadio r (fun l => { l with state := .down })).loseAttachment (.radio r)
  else s

/-- A link after a reset: HELD, with its fields as R139 sets them and its link signal kept. -/
def RadioLink.reset (l : RadioLink) : RadioLink := { signal := l.signal }

end Sys2Proof.Machine
end

