-- ==== Sys2Proof/Machine/DownlinkOps.lean ====
section
/-!
DEFINITION. Downlink delivery (Chapter 9): the group filter, fan-out and unicast delivery.
-/

namespace Sys2Proof.Machine

/-- A port's egress queue accepts a frame of `b` blocks (R132). -/
def State.seatAccepts (s : State) (b : Nat) (p : Fin 32) : Bool :=
  (s.seat p).state == .up && queueBlocks (s.seat p).queue + b ≤ s.cfg.seatEgressLimit

/-- A link's egress queue accepts a frame of `b` blocks (R147). -/
def State.radioAccepts (s : State) (b : Nat) (r : Fin 6) : Bool :=
  (s.radio r).state == .up && queueBlocks (s.radio r).queue + b ≤ s.cfg.radioEgressLimit

/-- A record is placed at the tail of a port's egress queue, and the transmit side looks for work
(R132, R133). -/
def State.placeSeat (s : State) (p : Fin 32) (pos : EgressPos) : State :=
  (s.updSeat p (fun q => { q with queue := q.queue ++ [pos] })).seatLook p

/-- A record is placed at the tail of a link's egress queue, and the transmit side looks for work
(R147, R148). -/
def State.placeRadio (s : State) (r : Fin 6) (pos : EgressPos) : State :=
  (s.updRadio r (fun l => { l with queue := l.queue ++ [pos] })).radioLook r

/-- The ports that accept an offered group frame of `b` blocks (R156). -/
def State.groupPorts (s : State) (b : Nat) : List (Fin 32) := allPorts.filter (s.seatAccepts b)

/-- The radios that accept an offered group frame of `b` blocks: a saturated one is not offered
(R156). -/
def State.groupRadios (s : State) (b : Nat) : List (Fin 6) :=
  allRadios.filter (fun r => !(s.radio r).saturated && s.radioAccepts b r)

/-- The refusals and passings-over of a group frame of `b` blocks, counted (R156). -/
def State.countGroupRefusals (s : State) (b : Nat) : State :=
  ((s.count Ctr.SEAT_EGRESS_FULL
      (allPorts.filter (fun p => (s.seat p).state == .up && !s.seatAccepts b p)).length).count
    Ctr.RADIO_EGRESS_FULL
      (allRadios.filter (fun r => (s.radio r).state == .up && !(s.radio r).saturated &&
        !s.radioAccepts b r)).length).count
    Ctr.DOWN_DEGRADE
      (allRadios.filter (fun r => (s.radio r).state == .up && (s.radio r).saturated)).length

/-- A group frame placed in the queues that accept it, ports first (R156). -/
def State.placeGroup (s : State) (f : Frame) (ports : List (Fin 32)) (radios : List (Fin 6)) : State :=
  radios.foldl (fun s r => s.placeRadio r (.group f)) (ports.foldl (fun s p => s.placeSeat p (.group f)) s)

/-- The fan-out of a group frame whose flag is set (R156, R97). A queue's acceptance depends on that
queue alone, so the acceptances are taken together before the placing. -/
def State.fanOut (s : State) (data : List Byte) : State :=
  match s.allocDownlink data.length with
  | (s1, none) => s1
  | (s1, some blocks) =>
    let f : Frame := { blocks := blocks, data := data }
    let s2 := (s1.count Ctr.POOL_GROUP_STORED).countGroupRefusals f.size
    let ports := s2.groupPorts f.size
    let radios := s2.groupRadios f.size
    if ports.length + radios.length = 0 then (s2.releaseDownlink blocks).count Ctr.POOL_GROUP_UNPLACED
    else
      ((s2.storeGroup f (ports.length + radios.length)).count Ctr.DOWN_GROUP_PLACED).placeGroup f ports
        radios

/-- A group frame (R154, R155). -/
def State.downGroup (s0 : State) (data : List Byte) : State :=
  let s := s0.count Ctr.DOWN_RX_GROUP
  if s.filter.getLsbD (groupFlag (addrAt data 0)).toNat = true then s.fanOut data else s

/-- The attachment is UP (R157). -/
def State.attachUp (s : State) (a : Attachment) : Bool :=
  match a with
  | .seat p => (s.seat p).state == .up
  | .radio r => (s.radio r).state == .up

/-- The unicast load degrade at arrival: a saturated radio and class OPEN (R158 step 1). -/
def State.degradedFor (s : State) (c : Client) : Bool :=
  match c.attach with
  | .seat _ => false
  | .radio r => (s.radio r).saturated && c.cls == .openNet

/-- The attachment's egress queue accepts a frame of `b` blocks (R158 step 2). -/
def State.attachAccepts (s : State) (a : Attachment) (b : Nat) : Bool :=
  match a with
  | .seat p => s.seatAccepts b p
  | .radio r => s.radioAccepts b r

/-- The counter of an egress queue that refuses a frame at its limit (R132, R147). -/
def Attachment.fullCounter : Attachment → Counter
  | .seat _ => Ctr.SEAT_EGRESS_FULL
  | .radio _ => Ctr.RADIO_EGRESS_FULL

/-- A record is placed in the egress queue of an attachment (R158 step 4). -/
def State.placeAt (s : State) (a : Attachment) (pos : EgressPos) : State :=
  match a with
  | .seat p => s.placeSeat p pos
  | .radio r => s.placeRadio r pos

/-- The queueing of a unicast frame for a served entry whose attachment is UP (R158). -/
def State.queueUnicast (s : State) (i : Fin 256) (data : List Byte) : State :=
  let c := s.client i
  if s.degradedFor c = true then s.count Ctr.DOWN_DEGRADE
  else if s.attachAccepts c.attach (blocksFor data.length) = false then s.count c.attach.fullCounter
  else
    match s.allocDownlink data.length with
    | (s1, none) => s1
    | (s1, some blocks) =>
      (s1.count Ctr.DOWN_QUEUED).placeAt c.attach
        (.unicast { frame := { blocks := blocks, data := data }, cls := c.cls, dest := i
                    tenancy := c.tenancy, attach := c.attach })

/-- A unicast frame (R154, R157). -/
def State.downUnicast (s0 : State) (data : List Byte) : State :=
  let s := s0.count Ctr.DOWN_RX_UNICAST
  match s.lookup (addrAt data 0) with
  | none => s.count Ctr.DOWN_FILTERED
  | some i =>
    if (s.client i).state.served = false then s.count Ctr.DOWN_GONE
    else if s.attachUp (s.client i).attach = false then s.count Ctr.DOWN_ATTACH_NOT_UP
    else s.queueUnicast i data

/-- A PASSENGER frame from the gateway (R154). -/
def State.downlink (s : State) (data : List Byte) : State :=
  if isGroupAddr (addrAt data 0) = true then s.downGroup data else s.downUnicast data

end Sys2Proof.Machine
end

