-- ==== Sys2Proof/Machine/TallyOps.lean ====
section
/-!
DEFINITION. The tally engine's own operations (Chapter 2): the peer table, the conflict state, the
allotment and the own cycle.
-/

namespace Sys2Proof.Machine

/-- What a TALLY announces (R5). -/
structure TallyBody where
  d : Nat
  w : Nat
  a : Nat
  period : Nat
  hold : Bool
  conflict : Bool
  clients : Nat
deriving DecidableEq, Repr

/-- The lost-tally count after `gap` more tallies inferred lost, holding at 65535 (R26). -/
def addLost (lost gap : Nat) : Nat := min 65535 (lost + gap)

/-- The expiry of a peer entry whose TALLY announcing `period` is taken now: 3 × the period (R25). -/
def State.peerDue (s : State) (period : Nat) : Nat := s.now + Config.msTicks (30 * period)

/-- A peer entry made from a TALLY (R27), with the lost-tally count given (R25). -/
def State.peerFrom (s : State) (station : Nat) (seq : BitVec 8) (t : TallyBody) (lost : Nat) : Peer :=
  { station := station, period := t.period, lastSeq := seq, d := t.d, w := t.w, a := t.a
    clients := t.clients, hold := t.hold, conflict := t.conflict, due := s.peerDue t.period, lost := lost }

/-- A peer entry inserted at the place that keeps the ascending station order (R24, R27). -/
def insertPeer (p : Peer) : List Peer → List Peer
  | [] => [p]
  | q :: rest => if p.station < q.station then p :: q :: rest else q :: insertPeer p rest

/-- A TALLY from a station in the peer table (R25, R26). -/
def State.tallyKnown (s : State) (e : Peer) (seq : BitVec 8) (t : TallyBody) : State :=
  if seq = e.lastSeq then s.count Ctr.TALLY_RX_REPEAT
  else
    let e' := s.peerFrom e.station seq t (addLost e.lost (seq - e.lastSeq - 1).toNat)
    (s.updTally (fun y =>
      { y with peers := y.peers.map (fun q => if q.station = e.station then e' else q) })).count
      Ctr.TALLY_RX_ACCEPTED

/-- A TALLY from a station not in the peer table (R27, R28). -/
def State.tallyUnknown (s : State) (station : Nat) (seq : BitVec 8) (t : TallyBody) : State :=
  if s.tally.peers.length < Config.peerCap then
    ((((s.updTally (fun y => { y with peers := insertPeer (s.peerFrom station seq t 0) y.peers })).count
      Ctr.TALLY_RX_ACCEPTED).count Ctr.TALLY_PEER_JOINS).raiseAlert Alert.PEER_CHANGE).postNotice
      (.peerJoined station)
  else (s.count Ctr.TALLY_RX_NO_ROOM).raiseAlert Alert.PEER_TABLE_FULL

/-- A TALLY that reaches the tally engine (R25, R27, R28). -/
def State.tallyArrival (s : State) (station : Nat) (seq : BitVec 8) (t : TallyBody) : State :=
  match s.tally.peers.find? (·.station == station) with
  | some e => s.tallyKnown e seq t
  | none => s.tallyUnknown station seq t

/-- The expiry of a peer entry (R29). -/
def State.expirePeer (s : State) (station : Nat) : State :=
  (((s.updTally (fun y => { y with peers := y.peers.filter (fun q => q.station != station) })).count
    Ctr.TALLY_PEER_EXPIRIES).raiseAlert Alert.PEER_CHANGE).postNotice (.peerExpired station)

/-- A station conflict report (R36). -/
def State.conflictReport (s : State) : State :=
  let s1 := (s.raiseAlert Alert.STATION_CONFLICT).updTally
    (fun y => { y with reportMark := true, clean := 0, conflict := .conflict })
  if s.tally.conflict = .normal then s1.count Ctr.CONFLICT_ENTRIES else s1

/-- Step 1 of an own cycle expiry: the conflict state is brought up to date (R39). -/
def TallyEngine.conflictStep (y : TallyEngine) : TallyEngine :=
  match y.conflict with
  | .normal => { y with reportMark := false }
  | .conflict =>
    if y.reportMark = true then { y with reportMark := false }
    else if y.clean < 3 then { y with clean := y.clean + 1 }
    else { y with conflict := .normal, clean := 0 }

/-! ## The allotment (2.5) -/

/-- A station of the computation: its demand and its weight (R41). -/
structure Share where
  d : Nat
  w : Nat
deriving DecidableEq, Repr

/-- The floor of a station (R42). -/
def Share.floor (x : Share) (f : Nat) : Nat := min f x.d

/-- The excess of a station (R43). -/
def Share.excess (x : Share) (f : Nat) : Nat := x.d - x.floor f

/-- The remainder beyond the floors (R42). -/
def remainder (c f : Nat) (set : List Share) : Nat := c - (set.map (·.floor f)).sum

/-- The weights of the stations with excess, summed (R43). -/
def excessWeight (f : Nat) (set : List Share) : Nat :=
  ((set.filter (fun x => 0 < x.excess f)).map (·.w)).sum

/-- The proportional pass for a station (R43). -/
def Share.p1 (x : Share) (f r sw : Nat) : Nat := if sw = 0 then 0 else min (x.excess f) (r * x.w / sw)

/-- The leftover after the proportional pass (R44). -/
def leftover (f r sw : Nat) (set : List Share) : Nat := r - (set.map (·.p1 f r sw)).sum

/-- The stations left short by the proportional pass (R44). -/
def shortCount (f r sw : Nat) (set : List Share) : Nat :=
  (set.filter (fun x => x.p1 f r sw < x.excess f)).length

/-- The equal pass for a station (R44). -/
def Share.p2 (x : Share) (f r sw l n : Nat) : Nat :=
  if x.p1 f r sw < x.excess f then min (x.excess f - x.p1 f r sw) (l / n) else 0

/-- The allotment of a station of the set (R42 to R45). -/
def Share.allotment (x : Share) (c f : Nat) (set : List Share) : Nat :=
  let r := remainder c f set
  let sw := excessWeight f set
  x.floor f + x.p1 f r sw + x.p2 f r sw (leftover f r sw set) (shortCount f r sw set)

/-- The station set's peers: those whose HOLD flag is clear (R41). -/
def TallyEngine.peerShares (y : TallyEngine) : List Share :=
  (y.peers.filter (fun q => !q.hold)).map (fun q => { d := q.d, w := q.w })

/-! ## The own cycle (2.3) -/

/-- The own demand (R31). -/
def State.demand (s : State) : Nat :=
  min 65535 ((s.clients.toList.map Client.blocks).sum + s.sched.cycleCharge)

/-- The own weight: the class weights of the active entries (R32). -/
def State.weightSum (s : State) : Nat :=
  ((s.clients.toList.filter Client.activeNow).map (fun c => s.cfg.weight c.cls)).sum

/-- The allotment that an own cycle expiry computes from D_self and W_self (R35, R38, R45). -/
def State.ownAllotment (s : State) (d w : Nat) : Nat :=
  if s.op = .hold then 0
  else if s.tally.conflict = .conflict then min s.cfg.floor d
  else
    let self : Share := { d := d, w := w }
    self.allotment s.cfg.capacity s.cfg.floor (self :: s.tally.peerShares)

/-- The TALLY record of an own cycle expiry (R33). -/
def State.tallyRecord (s : State) : CtrlRec :=
  .tally s.tally.lastD s.tally.lastW s.tally.lastA s.cfg.period (s.op == .hold)
    (s.tally.conflict == .conflict) s.clientCount

/-- Last D, W and A are set: to the values taken, or to 0 in HOLD (R30 step 5, R35). -/
def State.setLast (s : State) (d w a : Nat) : State :=
  s.updTally (fun y =>
    { y with lastD := if s.op = .hold then 0 else d
             lastW := if s.op = .hold then 0 else w
             lastA := a })

/-- The own cycle expiry, steps 1 to 7 (R30). -/
def State.ownCycle (s : State) : State :=
  let s1 := s.updTally (fun y =>
    { y.conflictStep with cycleTimer := s.after (Config.msTicks (10 * s.cfg.period)) })
  let s2 := s1.setLast s1.demand s1.weightSum (s1.ownAllotment s1.demand s1.weightSum)
  let s3 := (s2.count Ctr.TALLY_POSTED).postControl s2.tallyRecord
  (s3.allotmentUpdate s3.tally.lastA s3.tally.lastW).sendOpportunity

end Sys2Proof.Machine
end

