-- ==== Sys2Proof/Machine/Operands.lean ====
section
/-!
DEFINITION. The line frame as an operand (1.1): its header, its bodies, and the checks of an arrival in
their order (R2).
-/

namespace Sys2Proof.Machine

/-- The header of a line frame (1.1). Zero bits are not kept: they are ignored on receipt (R1). -/
structure Header where
  kind : Nat
  dest : Nat
  origin : Nat
  cls : Nat
  seq : BitVec 8
  bodyLen : Nat
deriving DecidableEq, Repr

/-- The header of a received frame (1.1). -/
def headerOf (b : List Byte) : Header :=
  { kind := (byteAt b 0).toNat / 16
    dest := (byteAt b 0).toNat % 16 * 256 + (byteAt b 1).toNat
    origin := (byteAt b 2).toNat * 16 + (byteAt b 3).toNat / 16
    cls := (byteAt b 3).toNat / 4 % 4
    seq := byteAt b 4
    bodyLen := (byteAt b 5).toNat % 8 * 256 + (byteAt b 6).toNat }

/-- The eight header bytes of a sent frame, zero bits sent as 0 (1.1). -/
def headerBytes (h : Header) : List Byte :=
  [BitVec.ofNat 8 (h.kind * 16 + h.dest / 256), BitVec.ofNat 8 h.dest, BitVec.ofNat 8 (h.origin / 16),
   BitVec.ofNat 8 (h.origin % 16 * 16 + h.cls * 4), h.seq, BitVec.ofNat 8 (h.bodyLen / 256),
   BitVec.ofNat 8 h.bodyLen, 0]

/-- A body that its kind accepts (R4 to R7). -/
inductive Body
  | passenger (frame : List Byte)
  | tally (t : TallyBody)
  | claim (addr : Addr) (num : BitVec 8)
  | release (addr : Addr) (num : BitVec 8) (discard : Nat)
deriving DecidableEq, Repr

/-- The body of a PASSENGER frame (R4). -/
def passengerBody (b : List Byte) : Option Body :=
  if 64 ≤ b.length ∧ b.length ≤ 1522 then some (.passenger b) else none

/-- The body of a TALLY frame (R5). -/
def tallyBody (b : List Byte) : Option Body :=
  if b.length = 12 ∧ fieldBE b 2 2 ≤ 3840 ∧ 10 ≤ fieldBE b 6 2 ∧ fieldBE b 6 2 ≤ 200 ∧
      fieldBE b 10 2 ≤ 256 then
    some (.tally { d := fieldBE b 0 2, w := fieldBE b 2 2, a := fieldBE b 4 2, period := fieldBE b 6 2
                   hold := (byteAt b 8).getLsbD 0, conflict := (byteAt b 8).getLsbD 1
                   clients := fieldBE b 10 2 })
  else none

/-- The body of a CLAIM frame (R6); its class byte is checked and not used (R73). -/
def claimBody (b : List Byte) : Option Body :=
  if b.length = 8 ∧ fieldBE b 7 1 ≤ 3 ∧ isGroupAddr (addrAt b 0) = false then
    some (.claim (addrAt b 0) (byteAt b 6))
  else none

/-- The body of a RELEASE frame (R7). -/
def releaseBody (b : List Byte) : Option Body :=
  if b.length = 10 ∧ isGroupAddr (addrAt b 0) = false then
    some (.release (addrAt b 0) (byteAt b 6) (fieldBE b 8 2))
  else none

/-- What the steps of an arrival find (R2). -/
inductive Arrival
  | fragment
  | badCheck
  | badLength
  | badOrigin
  | ownOrigin
  | badKind
  | badBody
  | good (h : Header) (body : Body)
deriving DecidableEq, Repr

/-- Steps 6 and 7 of an arrival: the kind and the body (R2). -/
def classifyBody (h : Header) (body : List Byte) : Arrival :=
  match (match h.kind with
    | 1 => some (passengerBody body)
    | 2 => some (tallyBody body)
    | 3 => some (claimBody body)
    | 4 => some (releaseBody body)
    | _ => none) with
  | none => .badKind
  | some none => .badBody
  | some (some x) => .good h x

/-- The steps of an arrival in their order, for own station `own`; `none` where no own station number
is in effect (R2). -/
def classifyLine (own : Option Nat) (bytes : List Byte) : Arrival :=
  let h := headerOf bytes
  if bytes.length < 12 then .fragment
  else if checkPasses bytes = false then .badCheck
  else if h.bodyLen ≠ bytes.length - 12 then .badLength
  else if h.origin = 0 ∨ h.origin = 4095 then .badOrigin
  else if own = some h.origin then .ownOrigin
  else classifyBody h ((bytes.drop 8).take (bytes.length - 12))

/-- A frame that passed every check is passed on by kind (R4 to R7). -/
def State.passOn (s : State) (h : Header) : Body → State
  | .passenger frame =>
    if h.origin = s.cfg.gateway ∧ (h.dest = s.cfg.station ∨ h.dest = 4095) then s.downlink frame else s
  | .tally t =>
    if h.origin ≠ s.cfg.gateway ∧ (h.dest = s.cfg.station ∨ h.dest = 4095) then
      s.tallyArrival h.origin h.seq t
    else s
  | .claim a n =>
    if h.dest = s.cfg.station ∨ h.dest = 4095 then s.claimArrival a n h.origin else s
  | .release a n d => if h.dest = s.cfg.station then s.releaseArrival a n d else s

/-- An arrival in RUNNING or HOLD (R2, R3). -/
def State.lineArrival (s : State) (bytes : List Byte) : State :=
  match classifyLine (some s.cfg.station) bytes with
  | .fragment => s.count Ctr.LINE_RX_FRAGMENT
  | .badCheck => s.count Ctr.LINE_RX_BAD_CHECK
  | .badLength => s.count Ctr.LINE_RX_BAD_LENGTH
  | .badOrigin => (s.count Ctr.LINE_RX_FRAMES).count Ctr.LINE_RX_BAD_ORIGIN
  | .ownOrigin => ((s.count Ctr.LINE_RX_FRAMES).count Ctr.LINE_RX_OWN_ORIGIN).conflictReport
  | .badKind => (s.count Ctr.LINE_RX_FRAMES).count Ctr.LINE_RX_BAD_KIND
  | .badBody => (s.count Ctr.LINE_RX_FRAMES).count Ctr.LINE_RX_BAD_BODY
  | .good h body => (s.count Ctr.LINE_RX_FRAMES).passOn h body

/-- An arrival in UNCONFIGURED: steps 1 to 4 are applied and counted, and nothing is passed on (R2). -/
def State.lineArrivalUnconfigured (s : State) (bytes : List Byte) : State :=
  match classifyLine none bytes with
  | .fragment => s.count Ctr.LINE_RX_FRAGMENT
  | .badCheck => s.count Ctr.LINE_RX_BAD_CHECK
  | .badLength => s.count Ctr.LINE_RX_BAD_LENGTH
  | .badOrigin => (s.count Ctr.LINE_RX_FRAMES).count Ctr.LINE_RX_BAD_ORIGIN
  | _ => s.count Ctr.LINE_RX_FRAMES

/-- The arrival of a line frame (R2): the receiver is blind while the transmitter is SENDING, and
nothing arrives without a byte collected. -/
def State.lineFrame (s : State) (bytes : List Byte) : State :=
  if s.line.driving = true ∨ bytes = [] then s
  else
    match s.op with
    | .running => s.lineArrival bytes
    | .hold => s.lineArrival bytes
    | .unconfigured => s.lineArrivalUnconfigured bytes
    | _ => s

end Sys2Proof.Machine
end

