-- ==== Sys2Proof/Machine/StartOps.lean ====
section
/-!
DEFINITION. Start and hold control (Chapter 10): resets, the image check, the hand-over at RUNNING, Hold
entry and exit.
-/

namespace Sys2Proof.Machine

/-- Every block cleared as its chapter states for every kind of reset: the line interface (R21), the
tally engine (R23), the client table (R46, R89), packet memory (R90), the scheduler (R104), the seat
ports (R121), the radio links (R139), the group filter (R155), the notice queue (R170), the pending
flags and counts of the alert sources (R173), and the timers (R162). Inputs are kept, and a management
transaction under way ends (R168). R162 stops the hold timer and the exit settle window and does not name
the long mark: that it is clear after a reset is the model's choice (DESIGN CHOICE, log entry 28). -/
def State.clearBlocks (s : State) : State :=
  { s with
    now := 0
    runNow := 0
    ctl := { s.ctl with startDelay := none, holdTimer := none, longMark := false, settleWindow := none }
    line := { carrier := s.line.carrier }
    tally := {}
    clients := Vector.replicate 256 {}
    claimSeq := 0
    mem := PacketMem.split Config.resetDepth
    sched := {}
    seats := s.seats.map SeatPort.reset
    scanTimer := none
    radios := s.radios.map RadioLink.reset
    filter := 0
    notices := []
    alerts := s.alerts.map (fun a => { a with pending := false, count := 0 })
    response := []
    restartArmed := false }

/-- Power-up, supply dip and the reset pin (R162): every block cleared, the counters 0, priorities 8 and
masks clear (R173), the default image held, the cause record the given flag alone, and the part held in
reset. -/
def State.fullReset (s : State) (cause : ResetCause) : State :=
  let s1 := s.clearBlocks
  { s1 with
    ctl := { s1.ctl with op := .inReset, cause := cause, image := defaultImage
                         settings := Settings.ofImage defaultImage }
    counters := Vector.replicate 118 0
    alerts := Vector.replicate 12 {} }

/-- An alert source with its priority and mask as the settings give them (R173). -/
def AlertSource.configured (cfg : Settings) (a : AlertSource) (n : Nat) : AlertSource :=
  { a with priority := cfg.alertPriorities.toList.getD n 0, mask := cfg.alertMask.getLsbD n }

/-- The settings in effect are handed to the blocks (R161): the tally engine's cycle (R23), the pool
split (R90), the credit (R105), the seat ports (R121), the radios (R139), the group filter (R155) and
the alert sources (R173); the presence scan begins (R122, log entry 8). -/
def State.handOver (s : State) : State :=
  let cfg := s.cfg
  { s with
    ctl := { s.ctl with op := .running }
    tally := { s.tally with cycleTimer := s.after (Config.msTicks (10 * cfg.period)) }
    mem := PacketMem.split cfg.uplinkDepth
    sched := { s.sched with aeff := cfg.floor, credit := (cfg.floor : Int) }
    seats := s.seats.map (fun q => { q with state := .absent, reading := 0 })
    scanTimer := s.after Config.scanTicks
    radios := s.radios.map (fun l => { l with state := .down })
    filter := cfg.groupFilter
    alerts := s.alerts.mapIdx (fun n a => a.configured cfg n) }

/-- Hold entry at the scheduler (R119). -/
def State.schedHold (s : State) : State :=
  (if 0 < s.sched.credit then s.count Ctr.SCHED_CREDIT_FORFEIT s.sched.credit.toNat else s).updSched
    (fun d => { d with credit := 0, aeff := 0 })

/-- Hold entry (R166). The scheduler's credit is 0 before the line interface looks for a frame, since
in HOLD the scheduler hands none over (R20, log entry 10). -/
def State.enterHold (s : State) : State :=
  let s1 := ((s.updCtl (fun c =>
    { c with op := .hold, holdTimer := s.after (Config.secTicks c.settings.holdLimitS)
             longMark := false, settleWindow := none })).raiseAlert Alert.HOLD_CHANGE).count
    Ctr.HOLD_ENTRIES
  let s2 := s1.schedHold.lineHoldEntry
  allRadios.foldl State.radioHold (allPorts.foldl State.seatHold s2)

/-- A change into RUNNING with the hand-over (R161): a send opportunity is looked for (R10). It ends in
RUNNING. If the HOLD input is asserted, Hold entry follows at once as an event of its own: HOLD_ENTRY is put
at the front of the queue, before every command that waits (log entry 27). -/
def State.enterRunning (s : State) : State :=
  let s1 := s.handOver.sendOpportunity
  if s1.ctl.holdInput = true then s1.followedBy .holdEntry else s1

/-- The image check (R164), applied to the held image. -/
def State.imageCheck (s : State) : State :=
  let img := s.ctl.image
  if imageGood img = true then
    if imageClamped img = true then
      (((s.updCtl (fun c =>
        { c with settings := Settings.ofImage img
                 cause := { c.cause with outcome := .clamped } })).raiseAlert Alert.CONFIG)).enterRunning
    else
      (s.updCtl (fun c =>
        { c with settings := Settings.ofImage img
                 cause := { c.cause with outcome := .good } })).enterRunning
  else
    (s.updCtl (fun c =>
      { c with op := .unconfigured, cause := { c.cause with outcome := .badCheck } })).raiseAlert
      Alert.CONFIG

/-- The load completion (R163): a memory that gave no answer leaves the held image as it is. -/
def State.loadDone (s : State) : Option Image → State
  | none =>
    (s.updCtl (fun c =>
      { c with op := .unconfigured, cause := { c.cause with outcome := .absent } })).raiseAlert Alert.CONFIG
  | some img => (s.updCtl (fun c => { c with image := img })).imageCheck

/-- One entry of the flush at the exit from a long Hold (R69). -/
def State.flushEntry (s : State) (i : Fin 256) : State :=
  match (s.client i).state with
  | .free => s
  | .moved => s.freeEntry i
  | _ => s.freeWithNotice i .hold Ctr.CLIENT_LEFT_HOLD

/-- The flush at the exit from a long Hold: every entry in ascending index (R69). -/
def State.longHoldFlush (s : State) : State := allEntries.foldl State.flushEntry s

/-- Hold exit (R167). No rule orders the radio links' reports of a loss of attachment (R152): ascending radio
number is the model's choice (DESIGN CHOICE, log entry 11). -/
def State.exitHold (s : State) : State :=
  let s1 := (s.updCtl (fun c => { c with op := .running, holdTimer := none })).raiseAlert
    Alert.HOLD_CHANGE
  let s2 := if s1.ctl.longMark = true then s1.longHoldFlush else s1
  let s3 := allRadios.foldl State.radioHoldExit (allPorts.foldl State.seatHoldExit s2)
  s3.updCtl (fun c => { c with settleWindow := s3.after Config.settleTicks })

/-- The reset that RESTART arranges (R162): counters, image, settings and cause record kept, the RESTART
flag added, the line state set from carrier present (R8, R9), and straight to RUNNING. -/
def State.restartNow (s : State) : State :=
  let s1 := s.clearBlocks
  ((s1.updCtl (fun c => { c with cause := { c.cause with restart := true } })).updLine
    (·.setFromCarrier 0)).enterRunning

end Sys2Proof.Machine
end

