-- ==== Sys2Proof/Machine/Flags.lean ====
section
/-!
DEFINITION. The alert flags and the ALERT line (11.4), and how states, notices and entries read as words
of the management port (11.1).
-/

namespace Sys2Proof.Machine

/-! ## Alerts -/

/-- A source that can assert ALERT_N: pending, unmasked, of priority above 0 (R174, R176). -/
def AlertSource.asserting (a : AlertSource) : Bool := a.pending && !a.mask && 0 < a.priority

/-- The ALERT line is asserted (R176); ALERT_N is driven low while it is. -/
def State.alertLine (s : State) : Bool := s.alerts.toList.any AlertSource.asserting

/-- All alert source numbers, ascending. -/
def allAlerts : List AlertNo := List.finRange 12

/-- Of two sources the one READ ALERT returns: the higher priority, the earlier (lower number) on a tie
(R174). -/
def State.betterAlert (s : State) (a b : AlertNo) : AlertNo :=
  if (s.alert a).priority < (s.alert b).priority then b else a

/-- The source READ ALERT returns, or `none` for NONE (R174). -/
def State.topAlert (s : State) : Option AlertNo :=
  match allAlerts.filter (fun a => (s.alert a).asserting) with
  | [] => none
  | a :: rest => some (rest.foldl s.betterAlert a)

/-- The masks of the sources selected by the operand become `m` (R174); bits 15 to 12 are ignored. -/
def State.setMasks (s : State) (sources : Word) (m : Bool) : State :=
  { s with alerts := s.alerts.mapIdx (fun n a => if sources.getLsbD n = true then { a with mask := m } else a) }

/-! ## Codes (11.1) -/

/-- The result codes of the management port (11.1). -/
inductive ResultCode
  | ok
  | notReady
  | badIndex
  | badState
  | stale
  | empty
deriving DecidableEq, Repr

/-- The word of a result code. -/
def ResultCode.code : ResultCode → Word
  | .ok => 0
  | .notReady => 1
  | .badIndex => 2
  | .badState => 3
  | .stale => 4
  | .empty => 5

/-- The word of an operating state (11.1). No command is taken in reset, so `inReset` is never sent. -/
def OpState.code : OpState → Word
  | .inReset => 0xFFFF
  | .starting => 0
  | .loading => 1
  | .unconfigured => 2
  | .running => 3
  | .hold => 4

/-- The word of a client state (11.1). -/
def ClientState.code : ClientState → Word
  | .free => 0
  | .probation => 1
  | .localHeld => 2
  | .leaving => 3
  | .moved => 4

/-- The word of an attachment: the port, or 32 plus the radio (11.1). -/
def Attachment.code : Attachment → Word
  | .seat p => word p.val
  | .radio r => word (32 + r.val)

/-- The word of a running timer's kind: 0 none, 1 hold-off, 2 drain, 3 tombstone (11.1). -/
def Client.timerCode (c : Client) : Word :=
  if c.timer = none then 0
  else match c.state with
    | .probation => 1
    | .leaving => 2
    | .moved => 3
    | _ => 0

/-- The word of a pending reattachment (11.1). -/
def pendingWord : Option (Fin 6 × Fin 4) → Word
  | none => 65535
  | some (r, k) => word (k.val * 256 + (32 + r.val))

/-- The word of the reset cause flags (11.1). -/
def ResetCause.flags (c : ResetCause) : Word :=
  flagWord c.power ||| flagWord c.dip <<< 1 ||| flagWord c.pin <<< 2 ||| flagWord c.restart <<< 3

/-- The word of a load outcome (11.1). -/
def LoadOutcome.code : LoadOutcome → Word
  | .none => 0
  | .good => 1
  | .clamped => 2
  | .badCheck => 3
  | .absent => 4

/-- The code of a CLIENT_LEFT reason (11.1). -/
def LeftReason.code : LeftReason → Nat
  | .leave => 1
  | .drain => 2
  | .idle => 3
  | .evict => 4
  | .hold => 5

/-- The six words of a notice from its fields (11.1). -/
def noticeWords (kind reason : Nat) (attach : Word) (index tenancy : Nat) (addr : Addr) (station : Nat) :
    List Word :=
  [word (kind * 4096 + reason * 256) ||| attach, word (index * 256 + tenancy)] ++ addrWords addr ++
    [word (station % 4096)]

/-- The six words of a notice (11.1); a field that a kind does not carry reads as 0. -/
def Notice.words : Notice → List Word
  | .clientAdded i t a att => noticeWords 1 0 att.code i.val t.toNat a 0
  | .clientLeft i t a att r => noticeWords 2 r.code att.code i.val t.toNat a 0
  | .clientMovedAway i t a att st => noticeWords 3 0 att.code i.val t.toNat a st
  | .attachmentChanged i t a att => noticeWords 4 0 att.code i.val t.toNat a 0
  | .peerJoined st => noticeWords 5 0 0 0 0 0 st
  | .peerExpired st => noticeWords 6 0 0 0 0 0 st
  | .tableFull a att => noticeWords 7 0 att.code 0 0 a 0

/-! ## Readings -/

/-- The data words of READ STATUS (11.1); in STARTING and LOADING the fixed report of R169. -/
def State.statusWords (s : State) : List Word :=
  if s.op = .starting ∨ s.op = .loading then [s.op.code, 0, 0, 0, 0, 0, 0, 1280, 768, 0, 0]
  else
    [s.op.code, word s.cfg.station, word s.tally.lastA, word s.tally.lastD, word s.tally.lastW] ++
    twoWords (BitVec.ofInt 32 s.sched.credit) ++
    [word s.mem.uplinkFree.length, word s.mem.downlinkFree.length, word s.tally.peers.length,
     word s.clientCount]

/-- The data words of READ CLIENT (11.1). -/
def State.clientWords (s : State) (c : Client) : List Word :=
  [c.state.code, word c.tenancy.toNat] ++ addrWords c.addr ++
  [c.attach.code, word c.cls.num.val,
   match c.net with
     | none => 65535
     | some k => word k.val,
   word c.claimNum.toNat, word c.queue.length, word c.blocks, word c.quota, word c.used,
   flagWord c.charged, word (s.idleSeconds c), c.timerCode, word (s.msLeft c.timer),
   word c.flapCount, flagWord (s.flapOpen c), pendingWord c.pendingJoin]

/-- The data words of READ PEER (11.1). -/
def State.peerWords (s : State) (q : Peer) : List Word :=
  [word q.station, word q.period, word q.lastSeq.toNat, word q.d, word q.w, word q.a, word q.clients,
   flagWord q.hold ||| flagWord q.conflict <<< 1, word q.lost, word (s.msLeft (some q.due))]

end Sys2Proof.Machine
end

