-- ==== Sys2Proof/Machine/MgmtOps.lean ====
section
/-!
DEFINITION. The taking of a management command (R168, R169) and the commands that act on a client entry
(R67, R68).
-/

namespace Sys2Proof.Machine

/-- The response of a command is fixed at its taking (R168): the result word, then the data. -/
def State.answer (s : State) (r : ResultCode) (data : List Word := []) : State :=
  { s with response := r.code :: data }

/-- A command that is taken in UNCONFIGURED, RUNNING and HOLD: in STARTING and LOADING it answers
NOT_READY and has no effect (R169), and in reset the port takes no command (R168). -/
def State.command (s : State) (f : State → State) : State :=
  match s.op with
  | .inReset => s
  | .starting => s.answer .notReady
  | .loading => s.answer .notReady
  | _ => f s

/-- A command that is taken in every operating state but reset: READ STATUS, READ RESET CAUSE and an
unknown code (R168, R169). -/
def State.commandAlways (s : State) (f : State → State) : State :=
  if s.op = .inReset then s else f s

/-- EVICT's effect on OK (R67): the entry goes FREE with reason evict, and a radio client that was not
MOVED has a DROP handed to its link (R151). -/
def State.evictEntry (s : State) (i : Fin 256) : State :=
  let c := s.client i
  let s1 := s.freeWithNotice i .evict Ctr.CLIENT_EVICTED
  match c.attach with
  | .seat _ => s1
  | .radio r => if c.state.present = true then s1.handDrop r c.addr else s1

/-- EVICT, by its checks in order (R67). -/
def State.evictCommand (s : State) (index tenancy : Word) : State :=
  if h : index.toNat < 256 then
    let i : Fin 256 := ⟨index.toNat, h⟩
    if tenancy.toNat ≠ (s.client i).tenancy.toNat then s.answer .stale
    else if (s.client i).state = .free then s.answer .badState
    else (s.evictEntry i).answer .ok
  else s.answer .badIndex

/-- PROMOTE's effect on OK (R68): a change of class into priority 0 frees the queue, which ends a LEAVING
entry (R63); a change of class is an event at which the line interface looks for a frame (R10). -/
def State.promoteEntry (s : State) (i : Fin 256) (k : PClass) : State :=
  let s1 := s.count Ctr.CLIENT_PROMOTED
  if (s.client i).cls = k then s1
  else
    let s2 := s1.updClient i (fun c => { c with cls := k })
    (if s.cfg.priority k = 0 ∧ (s.client i).queue ≠ [] then
      (((s2.freeQueue i).endDrainIfEmpty i).judgeAt (s.client i).attach)
    else s2).sendOpportunity

/-- PROMOTE, by its checks in order (R68). -/
def State.promoteCommand (s : State) (index tenancy cls : Word) : State :=
  if h : index.toNat < 256 ∧ cls.toNat < 4 then
    let i : Fin 256 := ⟨index.toNat, h.1⟩
    if tenancy.toNat ≠ (s.client i).tenancy.toNat then s.answer .stale
    else if (s.client i).state.present = false then s.answer .badState
    else (s.promoteEntry i (PClass.ofNum ⟨cls.toNat, h.2⟩)).answer .ok
  else s.answer .badIndex

/-- READ COUNTER (R169, R172). -/
def State.readCounterCommand (s : State) (n : Word) : State :=
  if h : n.toNat < 118 then s.answer .ok (twoWords s.counters[n.toNat]) else s.answer .badIndex

/-- READ CLIENT (R169). -/
def State.readClientCommand (s : State) (index : Word) : State :=
  if h : index.toNat < 256 then s.answer .ok (s.clientWords (s.client ⟨index.toNat, h⟩))
  else s.answer .badIndex

/-- READ PEER (R169, R24). -/
def State.readPeerCommand (s : State) (position : Word) : State :=
  match s.tally.peers[position.toNat]? with
  | some q => s.answer .ok (s.peerWords q)
  | none => s.answer .badIndex

/-- PEEK NOTICE (R171). -/
def State.peekCommand (s : State) : State :=
  match s.notices with
  | [] => s.answer .empty
  | n :: _ => s.answer .ok n.words

/-- POP NOTICE (R171). -/
def State.popCommand (s : State) : State :=
  match s.notices with
  | [] => s.answer .empty
  | n :: rest => ({ s with notices := rest }).answer .ok n.words

/-- READ ALERT (R174). -/
def State.readAlertCommand (s : State) : State :=
  match s.topAlert with
  | some a => s.answer .ok [word a.val, word (s.alert a).count.toNat]
  | none => s.answer .ok [15, 0]

/-- ACK ALERT (R169, R175). -/
def State.ackCommand (s : State) (source count : Word) : State :=
  if h : source.toNat < 12 then
    if count.toNat ≠ (s.alert ⟨source.toNat, h⟩).count.toNat then s.answer .stale
    else (s.updAlert ⟨source.toNat, h⟩ (fun a => { a with pending := false })).answer .ok
  else s.answer .badIndex

/-- LOAD IMAGE WORD (R165). -/
def State.loadWordCommand (s : State) (n value : Word) : State :=
  if s.op = .unconfigured then
    if h : n.toNat < 80 then
      (s.updCtl (fun c => { c with image := c.image.set n.toNat value h })).answer .ok
    else s.answer .badIndex
  else s.answer .badState

/-- START (R165). -/
def State.startCommand (s : State) : State :=
  if s.op = .unconfigured then s.imageCheck.answer .ok else s.answer .badState

/-- RESTART (R162): the reset waits for the end of the transaction. -/
def State.restartCommand (s : State) : State :=
  if s.op = .unconfigured then s.answer .badState
  else ({ s with restartArmed := true }).answer .ok

end Sys2Proof.Machine
end

