-- ==== Sys2Proof/Machine/Start.lean ====
section
/-!
DEFINITION. The meanings of the resets, the start sequence and Hold (Chapter 10). An event that cannot
arise as the state stands (an expiry of a stopped timer, a completion with nothing under way) changes
nothing (log entry 4).
-/

namespace Sys2Proof.Machine

/-- POWER_UP (R162). SUPPLY_OK is taken as low until RESET_RELEASE (log entry 1). -/
def execPowerUp (s : State) : Result :=
  .next ((s.fullReset { power := true }).updCtl (fun c => { c with supplyOk := false }))

/-- SUPPLY_DIP (R162). -/
def execSupplyDip (s : State) : Result :=
  .next ((s.fullReset { dip := true }).updCtl (fun c => { c with supplyOk := false }))

/-- RESET_PIN (R162). -/
def execResetPin (s : State) : Result :=
  .next ((s.fullReset { pin := true }).updCtl (fun c => { c with resetN := false }))

/-- RESET_RELEASE (R162): STARTING, with the start delay started and the line state and the stuck-line
timer set from carrier present (R8, R9). -/
def execResetRelease (s : State) : Result :=
  .next (if s.op = .inReset then
    (s.updCtl (fun c => { c with op := .starting, supplyOk := true, resetN := true
                                 startDelay := s.after Config.startDelayTicks })).updLine
      (·.setFromCarrier s.now)
  else s)

/-- START_DELAY_EXPIRY (R163). -/
def execStartDelayExpiry (s : State) : Result :=
  .next (s.onExpiry .startDelayExpiry (if s.op = .starting then s.ctl.startDelay else none)
    (·.updCtl (fun c => { c with op := .loading, startDelay := none })))

/-- LOAD_COMPLETION (R163). -/
def execLoadCompletion (image : Option Image) (s : State) : Result :=
  .next (if s.op = .loading then s.loadDone image else s)

/-- HOLD_ENTRY: the HOLD input is asserted; in RUNNING it is Hold entry (R166), and in any other state
it has no effect but to be read at the change into RUNNING (R161, R167). A change into RUNNING that finds
the input asserted puts this command at the front of the queue (log entry 27). -/
def execHoldEntry (s : State) : Result :=
  let s1 := s.updCtl (fun c => { c with holdInput := true })
  .next (if s.op = .running then s1.enterHold else s1)

/-- HOLD_TIMER_EXPIRY (R166). -/
def execHoldTimerExpiry (s : State) : Result :=
  .next (s.onExpiry .holdTimerExpiry (if s.op = .hold then s.ctl.holdTimer else none) (fun s =>
    (s.updCtl (fun c => { c with holdTimer := none, longMark := true })).count Ctr.HOLD_LONG))

/-- HOLD_EXIT: the HOLD input is released; in HOLD it is Hold exit (R167). -/
def execHoldExit (s : State) : Result :=
  let s1 := s.updCtl (fun c => { c with holdInput := false })
  .next (if s.op = .hold then s1.exitHold else s1)

/-- EXIT_SETTLE_WINDOW_EXPIRY (R137, R167). R137 does not order the ports that go ABSENT and report their
losses: ascending port number is the model's choice (DESIGN CHOICE, log entry 11). -/
def execExitSettleWindowExpiry (s : State) : Result :=
  .next (s.onExpiry .exitSettleWindowExpiry s.ctl.settleWindow (fun s =>
    allPorts.foldl State.seatSettleEnd (s.updCtl (fun c => { c with settleWindow := none }))))

end Sys2Proof.Machine
end

