-- ==== Sys2Proof/Machine/Line.lean ====
section
/-!
DEFINITION. The meanings of the carriage line's events (Chapter 1).
-/

namespace Sys2Proof.Machine

/-- CARRIER_RISE (R8, R9). In reset only the input is kept: the line state is set from it at the end of
the reset. -/
def execCarrierRise (s : State) : Result :=
  .next (if s.op = .inReset then s.updLine (fun l => { l with carrier := true })
    else s.updLine (fun l => { l with carrier := true }.riseAt s.now))

/-- CARRIER_FALL (R8, R9). Carrier stays present while the part itself drives the line (log entry 5). -/
def execCarrierFall (s : State) : Result :=
  .next (if s.op = .inReset ∨ s.line.driving = true then s.updLine (fun l => { l with carrier := false })
    else s.updLine (fun l => { l with carrier := false }.fallAt s.now))

/-- The gap has passed: IDLE; a DEFER frame starts its next attempt, and an EMPTY transmitter looks for a
frame (R8, R10, R16). -/
def State.gapEnds (s : State) : State :=
  let s1 := s.updLine (fun l => { l with line := .idle, gapTimer := none })
  match s1.line.slot with
  | none => s1.sendOpportunity
  | some x => if x.phase = .defer then s1.updLine (·.startAttempt s1.now) else s1

/-- GAP_TIMER_EXPIRY (R8). -/
def execGapTimerExpiry (s : State) : Result := .next (s.onExpiry .gapTimerExpiry s.line.gapTimer State.gapEnds)

/-- STUCK_LINE_TIMER_EXPIRY (R9). -/
def execStuckLineTimerExpiry (s : State) : Result :=
  .next (s.onExpiry .stuckLineTimerExpiry s.line.stuckTimer (fun s =>
    ((s.updLine (fun l => { l with stuckTimer := none })).count Ctr.LINE_STUCK_EPISODES).raiseAlert
      Alert.LINE_STUCK))

/-- LINE_FRAME_ARRIVAL (R2). -/
def execLineFrameArrival (bytes : List Byte) (s : State) : Result := .next (s.lineFrame bytes)

/-- COLLISION (R14); outside SENDING it changes nothing here (R16). -/
def execCollision (s : State) : Result :=
  .next (match s.line.slot with
    | some x => if x.phase = .sending then s.collide x else s
    | none => s)

/-- ATTEMPT_COMPLETION (R12). -/
def execAttemptCompletion (s : State) : Result :=
  .next (match s.line.slot with
    | some x => if x.phase = .sending then s.complete x else s
    | none => s)

/-- The backoff has ended: the next attempt begins if the line is IDLE, otherwise DEFER (R16). -/
def State.backoffEnds (s : State) : State :=
  let s1 := s.updLine (fun l => { l with backoffTimer := none })
  match s1.line.slot with
  | none => s1
  | some x =>
    if x.phase = .backoff then
      if s1.line.line = .idle then s1.updLine (·.startAttempt s1.now)
      else s1.updLine (fun l => { l with slot := some { x with phase := .defer } })
    else s1

/-- BACKOFF_TIMER_EXPIRY (R16). -/
def execBackoffTimerExpiry (s : State) : Result :=
  .next (s.onExpiry .backoffTimerExpiry s.line.backoffTimer State.backoffEnds)

end Sys2Proof.Machine
end

