-- ==== Sys2Proof/Machine/Tally.lean ====
section
/-!
DEFINITION. The meanings of the tally engine's expiries (Chapter 2).
-/

namespace Sys2Proof.Machine

/-- The expiry timer of a station's peer entry; stopped where the station has no entry (2.2). -/
def State.peerTimer (s : State) (station : Nat) : Timer :=
  (s.tally.peers.find? (·.station == station)).map (·.due)

/-- PEER_EXPIRY (R29): the expiry of the station's entry, if it has one. Where a TALLY taken before the
waiting expiry has started the timer anew, the expiry does not happen (R25). -/
def execPeerExpiry (station : Nat) (s : State) : Result :=
  .next (s.onExpiry (.peerExpiry station) (s.peerTimer station) (·.expirePeer station))

/-- OWN_CYCLE_EXPIRY (R30). The timer runs in RUNNING and HOLD only (R23). -/
def execOwnCycleExpiry (s : State) : Result :=
  .next (s.onExpiry .ownCycleExpiry (if s.active = true then s.tally.cycleTimer else none) State.ownCycle)

end Sys2Proof.Machine
end

