-- ==== Sys2Proof/Machine/Seats.lean ====
section
/-!
DEFINITION. The meanings of the seat ports' events (Chapter 7).
-/

namespace Sys2Proof.Machine

/-- SEAT_FRAME_ARRIVAL (R124). -/
def execSeatFrameArrival (port : Fin 32) (bytes : List Byte) (s : State) : Result :=
  .next (s.seatFrame port bytes)

/-- PRESENCE_SCAN (R122): taken in RUNNING and HOLD, at the scan's time (log entry 8); each port
takes one reading. R122 gives no order of the ports within one scan: ascending port number is the model's
choice (DESIGN CHOICE, log entry 11). -/
def execPresenceScan (s : State) : Result :=
  .next (if s.active = true ∧ s.overtaken .presenceScan s.scanTimer = false then
    let s1 := s.onExpiry .presenceScan s.scanTimer id
    allPorts.foldl State.readPort { s1 with scanTimer := s1.after Config.scanTicks }
  else s.consume .presenceScan)

/-- FAULT_WINDOW_EXPIRY (R130). -/
def execFaultWindowExpiry (port : Fin 32) (s : State) : Result :=
  .next (s.onExpiry (.faultWindowExpiry port) (s.seat port).faultWindow (fun s =>
    s.updSeat port (fun q => { q with bad := 0, unadmitted := 0, faultWindow := s.after Config.faultTicks })))

/-- QUIET_TIMER_EXPIRY (R131). -/
def execQuietTimerExpiry (port : Fin 32) (s : State) : Result :=
  .next (s.onExpiry (.quietTimerExpiry port) (s.seat port).quietTimer (·.updSeat port (fun q =>
    { q with state := .settling, reading := 0, exitMark := false, quietTimer := none })))

/-- PAUSE_REFRESH_EXPIRY (R128): the refresh timer runs only while PAUSING is set. -/
def execPauseRefreshExpiry (port : Fin 32) (s : State) : Result :=
  .next (s.onExpiry (.pauseRefreshExpiry port)
    (if (s.seat port).pausing = true then (s.seat port).refreshTimer else none) (fun s =>
      (s.updSeat port (fun q =>
        { q with pendingPause := some 65535, refreshTimer := s.after Config.refreshTicks })).seatLook port))

/-- RECEIVED_PAUSE_EXPIRY (R129). -/
def execReceivedPauseExpiry (port : Fin 32) (s : State) : Result :=
  .next (s.onExpiry (.receivedPauseExpiry port) (s.seat port).rxPause (fun s =>
    (s.updSeat port (fun q => { q with rxPause := none })).seatLook port))

/-- SEAT_DELIVERY_COMPLETION (R134). -/
def execSeatDeliveryCompletion (port : Fin 32) (s : State) : Result :=
  .next (if (s.seat port).tx = .delivering then s.seatDelivered port else s)

/-- The completion of a pause frame: SEAT_PAUSE_SENT is counted and the transmit side looks for work
(R128, R133, R134). -/
def State.seatPauseSent (s : State) (p : Fin 32) : State :=
  ((s.updSeat p (fun q => { q with tx := .idle })).count Ctr.SEAT_PAUSE_SENT).seatLook p

/-- SEAT_PAUSE_SEND_COMPLETION (R128, R134). -/
def execSeatPauseSendCompletion (port : Fin 32) (s : State) : Result :=
  .next (match (s.seat port).tx with
    | .sendingPause _ => s.seatPauseSent port
    | _ => s)

/-- SEAT_LINK_INDICATION_FALL (R134). -/
def execSeatLinkIndicationFall (port : Fin 32) (s : State) : Result := .next (s.seatLinkFall port)

/-- SEAT_LINK_INDICATION_RISE (R133). -/
def execSeatLinkIndicationRise (port : Fin 32) (speed : Speed) (s : State) : Result :=
  .next ((s.updSeat port (fun q => { q with link := true, phySpeed := speed })).seatLook port)

end Sys2Proof.Machine
end

