-- ==== Sys2Proof/Machine/Radios.lean ====
section
/-!
DEFINITION. The meanings of the radio links' events (Chapter 8).
-/

namespace Sys2Proof.Machine

/-- RADIO_MESSAGE_ARRIVAL (R140). A message is received only while the link signal is present, so its
arrival shows the signal (log entry 6). -/
def execRadioMessageArrival (radio : Fin 6) (bytes : List Byte) (s : State) : Result :=
  .next ((s.updRadio radio (fun l => { l with signal := true })).radioMessage radio bytes)

/-- LIVENESS_EXPIRY (R143). -/
def execLivenessExpiry (radio : Fin 6) (s : State) : Result :=
  .next (s.onExpiry (.livenessExpiry radio)
    (if (s.radio radio).state = .up then (s.radio radio).liveness else none)
    (·.radioDown radio Ctr.RADIO_DOWN_SILENT))

/-- LOSS_OF_LINK_SIGNAL (R143): in DOWN and HELD it changes only the input. -/
def execLossOfLinkSignal (radio : Fin 6) (s : State) : Result :=
  let s1 := s.updRadio radio (fun l => { l with signal := false })
  .next (if (s.radio radio).state = .up then s1.radioDown radio Ctr.RADIO_DOWN_SIGNAL else s1)

/-- RADIO_MESSAGE_COMPLETION (R150). -/
def execRadioMessageCompletion (radio : Fin 6) (s : State) : Result := .next (s.radioComplete radio)

end Sys2Proof.Machine
end

