-- ==== Sys2Proof/Machine/Clients.lean ====
section
/-!
DEFINITION. The meanings of the client table's expiries (Chapters 3 and 4).
-/

namespace Sys2Proof.Machine

/-- The timer of an entry in the given state; stopped in any other, where the timer is another one (03 3.1). -/
def State.entryTimer (s : State) (i : Fin 256) (st : ClientState) : Timer :=
  if (s.client i).state = st then (s.client i).timer else none

/-- HOLD_OFF_EXPIRY (R72). -/
def execHoldOffExpiry (entry : Fin 256) (s : State) : Result :=
  .next (s.onExpiry (.holdOffExpiry entry) (s.entryTimer entry .probation)
    (fun s => (s.makeLocal entry).count Ctr.CLAIM_HOLDOFF_LOCAL))

/-- DRAIN_EXPIRY (R63). -/
def execDrainExpiry (entry : Fin 256) (s : State) : Result :=
  .next (s.onExpiry (.drainExpiry entry) (s.entryTimer entry .leaving)
    (·.freeWithNotice entry .drain Ctr.CLIENT_LEFT_DRAIN))

/-- The tick at which the idle age of an entry reaches the idle limit, while RUNNING lasts (R65). -/
def State.idleDue (s : State) (c : Client) : Nat :=
  s.now + (Config.secTicks s.cfg.idleLimitS - s.idleTicks c)

/-- IDLE_EXPIRY (R65): compared in LOCAL only, and frozen outside RUNNING (R66). -/
def execIdleExpiry (entry : Fin 256) (s : State) : Result :=
  .next (s.onExpiry (.idleExpiry entry)
    (if (s.client entry).state = .localHeld ∧ s.op = .running then some (s.idleDue (s.client entry))
      else none)
    (·.freeWithNotice entry .idle Ctr.CLIENT_IDLE_FREED))

/-- TOMBSTONE_EXPIRY (R84). -/
def execTombstoneExpiry (entry : Fin 256) (s : State) : Result :=
  .next (s.onExpiry (.tombstoneExpiry entry) (s.entryTimer entry .moved) (·.endTombstone entry))

end Sys2Proof.Machine
end

