-- ==== Sys2Proof/Machine/Management.lean ====
section
/-!
DEFINITION. The meanings of the management port's transactions (Chapter 11).
-/

namespace Sys2Proof.Machine

/-- TRANSACTION_ABANDONED (R168): nothing is taken and MGMT_REJECTED is counted; in reset the port takes
nothing at all. -/
def execTransactionAbandoned (s : State) : Result :=
  .next (s.commandAlways (·.count Ctr.MGMT_REJECTED))

/-- UNKNOWN_COMMAND (R168): BAD_INDEX in every operating state. -/
def execUnknownCommand (_code : Byte) (s : State) : Result :=
  .next (s.commandAlways (fun s => (s.count Ctr.MGMT_REJECTED).answer .badIndex))

/-- READ_STATUS (R169). -/
def execReadStatus (s : State) : Result :=
  .next (s.commandAlways (fun s => s.answer .ok s.statusWords))

/-- READ_COUNTER (R169, R172). -/
def execReadCounter (n : Word) (s : State) : Result := .next (s.command (·.readCounterCommand n))

/-- CLEAR_COUNTERS (R172). -/
def execClearCounters (s : State) : Result :=
  .next (s.command (fun s => ({ s with counters := Vector.replicate 118 0 }).answer .ok))

/-- READ_CLIENT (R169). -/
def execReadClient (index : Word) (s : State) : Result := .next (s.command (·.readClientCommand index))

/-- READ_PEER (R169, R24). -/
def execReadPeer (position : Word) (s : State) : Result := .next (s.command (·.readPeerCommand position))

/-- PEEK_NOTICE (R171). -/
def execPeekNotice (s : State) : Result := .next (s.command State.peekCommand)

/-- POP_NOTICE (R171). -/
def execPopNotice (s : State) : Result := .next (s.command State.popCommand)

/-- PROMOTE (R68). -/
def execPromote (index tenancy cls : Word) (s : State) : Result :=
  .next (s.command (·.promoteCommand index tenancy cls))

/-- EVICT (R67). -/
def execEvict (index tenancy : Word) (s : State) : Result :=
  .next (s.command (·.evictCommand index tenancy))

/-- READ_ALERT (R174). -/
def execReadAlert (s : State) : Result := .next (s.command State.readAlertCommand)

/-- ACK_ALERT (R175). -/
def execAckAlert (source count : Word) (s : State) : Result := .next (s.command (·.ackCommand source count))

/-- MASK_SET (R174). -/
def execMaskSet (sources : Word) (s : State) : Result :=
  .next (s.command (fun s => (s.setMasks sources true).answer .ok))

/-- MASK_CLEAR (R174). -/
def execMaskClear (sources : Word) (s : State) : Result :=
  .next (s.command (fun s => (s.setMasks sources false).answer .ok))

/-- READ_RESET_CAUSE (R162): the record is returned and its four flags are cleared. -/
def execReadResetCause (s : State) : Result :=
  .next (s.commandAlways (fun s =>
    (s.updCtl (fun c => { c with cause := { outcome := c.cause.outcome } })).answer .ok
      [s.ctl.cause.flags, s.ctl.cause.outcome.code]))

/-- LOAD_IMAGE_WORD (R165). -/
def execLoadImageWord (n value : Word) (s : State) : Result := .next (s.command (·.loadWordCommand n value))

/-- START (R165). -/
def execStart (s : State) : Result := .next (s.command State.startCommand)

/-- RESTART (R162). -/
def execRestart (s : State) : Result := .next (s.command State.restartCommand)

/-- RESTART_RESET (R162): the RESTART transaction ends. -/
def execRestartReset (s : State) : Result := .next (if s.restartArmed = true then s.restartNow else s)

end Sys2Proof.Machine
end

