-- ==== Sys2Proof/Machine/Dispatch.lean ====
section
/-!
DEFINITION. The dispatch: one arm per command, each one direct call of its meaning.
-/

namespace Sys2Proof.Machine

def exec (i : Instr) (s : State) : Host.Outcome State Fault Refusal :=
  match i with
  | .powerUp => Sys2Proof.Machine.execPowerUp s
  | .supplyDip => Sys2Proof.Machine.execSupplyDip s
  | .resetPin => Sys2Proof.Machine.execResetPin s
  | .resetRelease => Sys2Proof.Machine.execResetRelease s
  | .startDelayExpiry => Sys2Proof.Machine.execStartDelayExpiry s
  | .loadCompletion image => Sys2Proof.Machine.execLoadCompletion image s
  | .holdEntry => Sys2Proof.Machine.execHoldEntry s
  | .holdTimerExpiry => Sys2Proof.Machine.execHoldTimerExpiry s
  | .holdExit => Sys2Proof.Machine.execHoldExit s
  | .exitSettleWindowExpiry => Sys2Proof.Machine.execExitSettleWindowExpiry s
  | .carrierRise => Sys2Proof.Machine.execCarrierRise s
  | .carrierFall => Sys2Proof.Machine.execCarrierFall s
  | .gapTimerExpiry => Sys2Proof.Machine.execGapTimerExpiry s
  | .stuckLineTimerExpiry => Sys2Proof.Machine.execStuckLineTimerExpiry s
  | .lineFrameArrival bytes => Sys2Proof.Machine.execLineFrameArrival bytes s
  | .collision => Sys2Proof.Machine.execCollision s
  | .attemptCompletion => Sys2Proof.Machine.execAttemptCompletion s
  | .backoffTimerExpiry => Sys2Proof.Machine.execBackoffTimerExpiry s
  | .peerExpiry station => Sys2Proof.Machine.execPeerExpiry station s
  | .ownCycleExpiry => Sys2Proof.Machine.execOwnCycleExpiry s
  | .seatFrameArrival port bytes => Sys2Proof.Machine.execSeatFrameArrival port bytes s
  | .presenceScan => Sys2Proof.Machine.execPresenceScan s
  | .faultWindowExpiry port => Sys2Proof.Machine.execFaultWindowExpiry port s
  | .quietTimerExpiry port => Sys2Proof.Machine.execQuietTimerExpiry port s
  | .pauseRefreshExpiry port => Sys2Proof.Machine.execPauseRefreshExpiry port s
  | .receivedPauseExpiry port => Sys2Proof.Machine.execReceivedPauseExpiry port s
  | .seatDeliveryCompletion port => Sys2Proof.Machine.execSeatDeliveryCompletion port s
  | .seatPauseSendCompletion port => Sys2Proof.Machine.execSeatPauseSendCompletion port s
  | .seatLinkIndicationFall port => Sys2Proof.Machine.execSeatLinkIndicationFall port s
  | .seatLinkIndicationRise port speed => Sys2Proof.Machine.execSeatLinkIndicationRise port speed s
  | .radioMessageArrival radio bytes => Sys2Proof.Machine.execRadioMessageArrival radio bytes s
  | .livenessExpiry radio => Sys2Proof.Machine.execLivenessExpiry radio s
  | .lossOfLinkSignal radio => Sys2Proof.Machine.execLossOfLinkSignal radio s
  | .radioMessageCompletion radio => Sys2Proof.Machine.execRadioMessageCompletion radio s
  | .holdOffExpiry entry => Sys2Proof.Machine.execHoldOffExpiry entry s
  | .drainExpiry entry => Sys2Proof.Machine.execDrainExpiry entry s
  | .idleExpiry entry => Sys2Proof.Machine.execIdleExpiry entry s
  | .tombstoneExpiry entry => Sys2Proof.Machine.execTombstoneExpiry entry s
  | .transactionAbandoned => Sys2Proof.Machine.execTransactionAbandoned s
  | .unknownCommand code => Sys2Proof.Machine.execUnknownCommand code s
  | .readStatus => Sys2Proof.Machine.execReadStatus s
  | .readCounter n => Sys2Proof.Machine.execReadCounter n s
  | .clearCounters => Sys2Proof.Machine.execClearCounters s
  | .readClient index => Sys2Proof.Machine.execReadClient index s
  | .readPeer position => Sys2Proof.Machine.execReadPeer position s
  | .peekNotice => Sys2Proof.Machine.execPeekNotice s
  | .popNotice => Sys2Proof.Machine.execPopNotice s
  | .promote index tenancy cls => Sys2Proof.Machine.execPromote index tenancy cls s
  | .evict index tenancy => Sys2Proof.Machine.execEvict index tenancy s
  | .readAlert => Sys2Proof.Machine.execReadAlert s
  | .ackAlert source count => Sys2Proof.Machine.execAckAlert source count s
  | .maskSet sources => Sys2Proof.Machine.execMaskSet sources s
  | .maskClear sources => Sys2Proof.Machine.execMaskClear sources s
  | .readResetCause => Sys2Proof.Machine.execReadResetCause s
  | .loadImageWord n value => Sys2Proof.Machine.execLoadImageWord n value s
  | .start => Sys2Proof.Machine.execStart s
  | .restart => Sys2Proof.Machine.execRestart s
  | .restartReset => Sys2Proof.Machine.execRestartReset s

end Sys2Proof.Machine
end

