-- ==== Sys2Proof/Machine/Clock.lean ====
section
/-!
DEFINITION. The passing of time (log entry 2): one tick of 80 ns, and the expiry commands of the timers
that are due.
-/

namespace Sys2Proof.Machine

/-- The command of a timer's expiry, if the timer is due. -/
def State.dueOne (s : State) (t : Timer) (i : Instr) : List Instr := if s.isDue t = true then [i] else []

/-- The expiries due of the timers of the part as a whole. -/
def State.dueBlocks (s : State) : List Instr :=
  s.dueOne s.ctl.startDelay .startDelayExpiry ++
  s.dueOne s.line.gapTimer .gapTimerExpiry ++
  s.dueOne s.line.stuckTimer .stuckLineTimerExpiry ++
  s.dueOne s.line.backoffTimer .backoffTimerExpiry ++
  s.dueOne s.ctl.holdTimer .holdTimerExpiry ++
  s.dueOne s.ctl.settleWindow .exitSettleWindowExpiry ++
  s.dueOne s.tally.cycleTimer .ownCycleExpiry ++
  s.dueOne s.scanTimer .presenceScan ++
  (s.tally.peers.map (fun q => s.dueOne (some q.due) (.peerExpiry q.station))).flatten

/-- The expiries due of a seat port. -/
def State.dueSeat (s : State) (p : Fin 32) : List Instr :=
  s.dueOne (s.seat p).faultWindow (.faultWindowExpiry p) ++
  s.dueOne (s.seat p).quietTimer (.quietTimerExpiry p) ++
  s.dueOne (s.seat p).refreshTimer (.pauseRefreshExpiry p) ++
  s.dueOne (s.seat p).rxPause (.receivedPauseExpiry p)

/-- The expiry due of a client entry: its running timer's by its state, or its idle limit in LOCAL while
RUNNING (R65, R66). -/
def State.dueClient (s : State) (i : Fin 256) : List Instr :=
  match (s.client i).state with
  | .probation => s.dueOne (s.client i).timer (.holdOffExpiry i)
  | .leaving => s.dueOne (s.client i).timer (.drainExpiry i)
  | .moved => s.dueOne (s.client i).timer (.tombstoneExpiry i)
  | .localHeld => if s.op = .running then s.dueOne (some (s.idleDue (s.client i))) (.idleExpiry i) else []
  | .free => []

/-- All expiries due, in one fixed order (log entry 7). -/
def State.dueCommands (s : State) : List Instr :=
  s.dueBlocks ++ (allPorts.map s.dueSeat).flatten ++
  (allRadios.map (fun r => s.dueOne (s.radio r).liveness (.livenessExpiry r))).flatten ++
  (allEntries.map s.dueClient).flatten

/-- One tick passes with no command waiting: the expiries then due are raised and wait in the queue. -/
def State.tick (s : State) : State :=
  let s1 := s.advance 1
  { s1 with pending := s1.dueCommands, raised := s1.dueCommands }

end Sys2Proof.Machine
end

