-- ==== Sys2Proof/Machine/Outputs.lean ====
section
/-!
DEFINITION. What the part drives, as functions of the state: the line frame on the line (R1, R4 to R7),
the pause frame or passenger frame toward a seat (R128, R133), the message toward a radio (R148, R151),
the ALERT_N pin (R176) and the words of the management port (R168).
-/

namespace Sys2Proof.Machine

/-- The kind code of a line frame (1.1). -/
def FrameKind.code : FrameKind → Nat
  | .passenger => 1
  | .tally => 2
  | .claim => 3
  | .release => 4

/-- The body of a content as it is sent (R4 to R7). -/
def Content.body : Content → List Byte
  | .passenger rec => rec.frame.data
  | .control (.tally d w a period hold conflict clients) =>
    bytesBE 2 d ++ bytesBE 2 w ++ bytesBE 2 a ++ bytesBE 2 period ++
    [(if hold = true then 1 else 0) ||| (if conflict = true then 2 else 0), 0] ++ bytesBE 2 clients
  | .control (.claim a n k) => addrBytes a ++ [n, BitVec.ofNat 8 k.num.val]
  | .control (.release a n d _) => addrBytes a ++ [n, 0] ++ bytesBE 2 d

/-- The destination of a content as it is sent (R4 to R7). -/
def Content.dest (cfg : Settings) : Content → Nat
  | .passenger _ => cfg.gateway
  | .control (.release _ _ _ claimant) => claimant
  | .control _ => 4095

/-- The class field of a content as it is sent (R1, R4). -/
def Content.classField : Content → Nat
  | .passenger rec => rec.cls.num.val
  | .control _ => 0

/-- The line frame of a full slot: header, body and check (R1). -/
def Slot.bytes (cfg : Settings) (x : Slot) : List Byte :=
  let front := headerBytes
    { kind := x.content.kind.code, dest := x.content.dest cfg, origin := cfg.station
      cls := x.content.classField, seq := x.seq, bodyLen := x.content.body.length } ++ x.content.body
  front ++ lineCheck front

/-- What the transmitter drives on the line: the slot's frame while SENDING, otherwise nothing (1.3). -/
def State.lineOut (s : State) : Option (List Byte) :=
  match s.line.slot with
  | some x => if x.phase = .sending then some (x.bytes s.cfg) else none
  | none => none

/-- The first 60 bytes of a pause frame (R128). The station number and the pause time are sent most
significant byte first, which chapter 7 does not state (PRESUMED, log entry 30). -/
def pauseFront (station : Nat) (p : Fin 32) (time : BitVec 16) : List Byte :=
  [0x01, 0x80, 0xC2, 0x00, 0x00, 0x01, 0x02, 0x00] ++ bytesBE 2 station ++ [0x00, BitVec.ofNat 8 p.val] ++
  [0x88, 0x08, 0x00, 0x01] ++ bytesBE 2 time.toNat ++ List.replicate 42 0

/-- The 64-byte pause frame of a port (R128). -/
def pauseFrame (station : Nat) (p : Fin 32) (time : BitVec 16) : List Byte :=
  pauseFront station p time ++ frameFcs (pauseFront station p time)

/-- What a port sends toward its seat (R128, R133); nothing while it is not at work. -/
def State.seatOut (s : State) (p : Fin 32) : Option (List Byte) :=
  match (s.seat p).tx with
  | .idle => none
  | .sendingPause t => some (pauseFrame s.cfg.station p t)
  | .delivering => (s.seat p).queue.head?.map (·.frame.data)

/-- A radio link message: 4-byte header, body and check (8.1). -/
def radioMessageBytes (kind : Nat) (body : List Byte) : List Byte :=
  let front := [BitVec.ofNat 8 kind, 0] ++ bytesBE 2 body.length ++ body
  front ++ lineCheck front

/-- What a link sends toward its radio head (R148, R151); nothing while it is not at work. -/
def State.radioOut (s : State) (r : Fin 6) : Option (List Byte) :=
  match (s.radio r).tx with
  | .idle => none
  | .sendingData => (s.radio r).queue.head?.map (fun pos => radioMessageBytes 1 pos.frame.data)
  | .sendingDrop a => some (radioMessageBytes 8 (addrBytes a ++ [0, 0]))

/-- The level of the ALERT_N pin: low while the ALERT line is asserted (R176). -/
def State.alertN (s : State) : Bool := !s.alertLine

/-- The word the management port clocks out `k` words after the operands: the response, 0 beyond its
end, and all ones while the part is held in reset (R168). -/
def State.mgmtOut (s : State) (k : Nat) : Word :=
  if s.op = .inReset then 65535 else s.response.getD k 0

end Sys2Proof.Machine
end

