-- ==== Sys2Proof/WellFormed.lean ====
section
/-!
DEFINITION. Which commands are well formed: the operand checks that the operands' types leave open.
A port, radio or entry number is in range by its type, and every operand word of a management
command may take any value (the part judges it and answers a result code, R169).
-/

namespace Sys2Proof

/-- The command codes of the management port (11.1): 01 to 11, hexadecimal. -/
def knownCode (code : Byte) : Bool := 1 ≤ code.toNat && code.toNat ≤ 0x11

/-- A command as it can reach the part. An arrival holds at least one byte (R2: the receiver has
collected at least one byte), a peer entry's station is a number of 1..4094 (2.2), and an unknown
command's code is none of the command list's (R168). -/
def WellFormed : Instr → Bool
  | .lineFrameArrival bytes => !bytes.isEmpty
  | .seatFrameArrival _ bytes => !bytes.isEmpty
  | .radioMessageArrival _ bytes => !bytes.isEmpty
  | .peerExpiry station => 1 ≤ station && station ≤ 4094
  | .unknownCommand code => !knownCode code
  | _ => true

end Sys2Proof
end

