-- ==== Sys2Proof/Machine/Transactions.lean ====
section
/-!
DEFINITION. The transactions of the management port as the cabinet processor clocks them in (11.1, R168):
the words of a transaction, and the commands of the table that they stand for.
-/

namespace Sys2Proof.Machine

/-- The command code of word 0: bits 15 to 8; bits 7 to 0 are ignored (R168). -/
def commandCode (w : Word) : Byte := w.extractLsb' 8 8

/-- The command of a code with the operand words clocked in (11.1). Words after the last operand are
ignored. A known code with too few operands is a transaction abandoned before its last operand, and any
other code is unknown and has no operands (R168). -/
def commandOf (code : Byte) (operands : List Word) : Instr :=
  match code.toNat, operands with
  | 0x01, _ => .readStatus
  | 0x02, n :: _ => .readCounter n
  | 0x03, _ => .clearCounters
  | 0x04, index :: _ => .readClient index
  | 0x05, position :: _ => .readPeer position
  | 0x06, _ => .peekNotice
  | 0x07, _ => .popNotice
  | 0x08, index :: tenancy :: cls :: _ => .promote index tenancy cls
  | 0x09, index :: tenancy :: _ => .evict index tenancy
  | 0x0A, _ => .readAlert
  | 0x0B, source :: count :: _ => .ackAlert source count
  | 0x0C, sources :: _ => .maskSet sources
  | 0x0D, sources :: _ => .maskClear sources
  | 0x0E, _ => .readResetCause
  | 0x0F, n :: value :: _ => .loadImageWord n value
  | 0x10, _ => .start
  | 0x11, _ => .restart
  | _, _ => if knownCode code = true then .transactionAbandoned else .unknownCommand code

/-- What a transaction comes to, from the words clocked in between the assertion and the release of select
(R168). Select released before word 0 was clocked in is a release before the last operand (DEDUCED, log
entry 31). -/
def transactionCommand : List Word → Instr
  | [] => .transactionAbandoned
  | w :: operands => commandOf (commandCode w) operands

/-- The commands of a transaction: the command taken, and after RESTART the end of its transaction, at which
the reset takes effect (R162, R168). -/
def transactionEvents (words : List Word) : List Instr :=
  match transactionCommand words with
  | .restart => [.restart, .restartReset]
  | c => [c]

/-- The cabinet processor runs a transaction: its commands join the queue. -/
def State.transact (s : State) (words : List Word) : State :=
  { s with pending := s.pending ++ transactionEvents words }

end Sys2Proof.Machine
end

