-- ==== Sys2Proof/Safety.lean ====
section
/-!
DEFINITION. What the statements are stated with: the start condition that a reset leaves, the laws that
the manual says the part keeps, and the frames of the commands.
-/

namespace Sys2Proof.Machine

/-! ## Frames -/

/-- The fields of the state that only the clock, the management port and start and hold control change:
the queue of commands and what of it the clock raised, the clocks, start and hold control, the scan timer,
the group filter and the response of the management port. -/
def State.outer (s : State) :
    List Instr × List Instr × Nat × Nat × Control × Timer × BitVec 256 × List Word × Bool :=
  (s.pending, s.raised, s.now, s.runNow, s.ctl, s.scanTimer, s.filter, s.response, s.restartArmed)

/-- The counter `c` of `t` is that of `s` raised by `n`, holding at its largest value (R172). -/
def Counted (s t : State) (c : Counter) (n : Nat := 1) : Prop :=
  t.counters[c] = satAdd s.counters[c] n

/-- The alert source `a` of `t` is that of `s` after a raise: pending, its count up by one (R173). -/
def Raised (s t : State) (a : AlertNo) : Prop := t.alert a = (s.alert a).raised

/-- The notice `n` is posted between `s` and `t`, and no other (R170): with room it joins the tail of the
queue, and NOTICE_PENDING is raised where the queue was empty; at a full queue it is dropped, NOTICE_DROPPED
counted and NOTICE_OVERFLOW raised. -/
def Posted (s t : State) (n : Notice) : Prop :=
  (s.notices.length < 32 → t.notices = s.notices ++ [n] ∧ Counted s t Ctr.NOTICE_DROPPED 0 ∧
    t.alert Alert.NOTICE_OVERFLOW = s.alert Alert.NOTICE_OVERFLOW) ∧
  (32 ≤ s.notices.length → t.notices = s.notices ∧ Counted s t Ctr.NOTICE_DROPPED ∧
    Raised s t Alert.NOTICE_OVERFLOW) ∧
  (s.notices = [] → Raised s t Alert.NOTICE_PENDING) ∧
  (s.notices ≠ [] → t.alert Alert.NOTICE_PENDING = s.alert Alert.NOTICE_PENDING)

/-- Every client entry but `i` is as it was. -/
def OtherClients (s t : State) (i : Fin 256) : Prop := ∀ j, j ≠ i → t.client j = s.client j

/-- Every seat port but `p` is as it was. -/
def OtherSeats (s t : State) (p : Fin 32) : Prop := ∀ q, q ≠ p → t.seat q = s.seat q

/-- Every radio link but `r` is as it was. -/
def OtherRadios (s t : State) (r : Fin 6) : Prop := ∀ q, q ≠ r → t.radio q = s.radio q

/-! ## The start condition -/

/-- What every kind of reset leaves in every block (R11, R21, R23, R46, R71, R90, R104, R121, R139, R155,
R162, R170, R173): the values each chapter gives. That the gap timer and the stuck-line timer are stopped
while the reset lasts is the model's choice (log entry 21). -/
structure State.StartCondition (s : State) : Prop where
  slot : s.line.slot = none
  backoff : s.line.backoffTimer = none
  lineTimers : s.line.gapTimer = none ∧ s.line.stuckTimer = none
  control : s.line.queue = []
  sequences : ∀ k, s.line.seqOf k = 0
  tally : s.tally = { peers := [], cycleTimer := none, lastD := 0, lastW := 0, lastA := 0
                      conflict := .normal, clean := 0, reportMark := false }
  clients : ∀ i, s.client i =
    { addr := 0, state := .free, tenancy := 0, attach := .seat 0, cls := .crew, net := none, claimNum := 0
      queue := [], quota := 0, used := 0, charged := false, heardAt := 0, timer := none, flapCount := 0
      flapStart := none, pendingJoin := none }
  claimSeq : s.claimSeq = 0
  pools : s.mem.uplinkFree.length = 1280 ∧ s.mem.downlinkFree.length = 768 ∧ s.mem.groups = []
  credit : s.sched.credit = 0 ∧ s.sched.aeff = 0 ∧ s.sched.cycleCharge = 0
  pointers : ∀ ph k, s.sched.ptr ph k = 255
  seats : ∀ p, ∃ link phy, s.seat p =
    { state := .held, reading := 0, exitMark := false, speed := .mb100, faultWindow := none, bad := 0
      unadmitted := 0, quietTimer := none, pausing := false, refreshTimer := none, pendingPause := none
      rxPause := none, tx := .idle, queue := [], link := link, phySpeed := phy }
  radios : ∀ r, ∃ signal, s.radio r =
    { state := .held, liveness := none, load := 0, buffer := 1, taken := 0, sent := 0, tx := .idle
      drops := [], queue := [], signal := signal }
  filter : s.filter = 0
  notices : s.notices = []
  alerts : ∀ a, (s.alert a).pending = false ∧ (s.alert a).count = 0
  timers : s.ctl.startDelay = none ∧ s.ctl.holdTimer = none ∧ s.ctl.settleWindow = none ∧
    s.scanTimer = none

/-! ## Start -/

/-- An image passes its check (R164, first step). -/
def ImagePasses (img : Image) : Prop :=
  (img.toList.map (·.toNat)).sum % 65536 = 0 ∧ img[0] = 1 ∧
  (1 ≤ img[1].toNat ∧ img[1].toNat ≤ 4094) ∧ (1 ≤ img[2].toNat ∧ img[2].toNat ≤ 4094) ∧ img[2] ≠ img[1]

/-- A value of the image in its range, or the nearer end of the range (R164, second step). -/
def Nearest (lo hi n v : Nat) : Prop :=
  v = if n < lo then lo else if hi < n then hi else n

/-- What the hand-over of the settings `cfg` at a change into RUNNING leaves in the blocks (R161): the
tally engine's cycle (R23), the pool split (R90), credit and Aeff (R105), the seat ports (R121), the
radio links (R139), the group filter (R155), and the alert priorities and masks (R173). Which block numbers
each pool has, and their order, is the model's choice (log entry 9). -/
structure State.HandedOver (s : State) : Prop where
  cycle : s.tally.cycleTimer = some (s.now + Config.msTicks (10 * s.cfg.period))
  pools : s.mem = PacketMem.split s.cfg.uplinkDepth
  credit : s.sched.credit = s.cfg.floor ∧ s.sched.aeff = s.cfg.floor
  seats : ∀ p, (s.seat p).state = .absent ∧ (s.seat p).reading = 0
  radios : ∀ r, (s.radio r).state = .down
  filter : s.filter = s.cfg.groupFilter
  alerts : ∀ a : AlertNo, (s.alert a).priority = s.cfg.alertPriorities[a] ∧
    (s.alert a).mask = s.cfg.alertMask.getLsbD a

/-! ## The client table -/

/-- An entry after the loss of its attachment at tick `now` (R61, R63): a PROBATION or LOCAL entry goes
LEAVING with its drain started, and through it to FREE where it holds no frame. -/
def Client.afterLoss (c : Client) (now : Nat) : Client :=
  if c.state = .probation ∨ c.state = .localHeld then
    if c.queue = [] then
      { c with state := .free, timer := none, pendingJoin := none, flapCount := 0, flapStart := none
               quota := 0, used := 0, charged := false }
    else { c with state := .leaving, timer := some (now + Config.drainTicks) }
  else c

/-- An entry after its freeing (R51, R52). -/
def Client.afterFreeing (c : Client) : Client :=
  { c with state := .free, queue := [], timer := none, pendingJoin := none, flapCount := 0
           flapStart := none, quota := 0, used := 0, charged := false }

/-! ## Time -/

/-- The expiry that the command stands for is due: its timer runs and its time has come (log entry 2). -/
def State.Due (s : State) : Instr → Prop
  | .startDelayExpiry => ∃ d, s.ctl.startDelay = some d ∧ d ≤ s.now
  | .holdTimerExpiry => ∃ d, s.ctl.holdTimer = some d ∧ d ≤ s.now
  | .exitSettleWindowExpiry => ∃ d, s.ctl.settleWindow = some d ∧ d ≤ s.now
  | .gapTimerExpiry => ∃ d, s.line.gapTimer = some d ∧ d ≤ s.now
  | .stuckLineTimerExpiry => ∃ d, s.line.stuckTimer = some d ∧ d ≤ s.now
  | .backoffTimerExpiry => ∃ d, s.line.backoffTimer = some d ∧ d ≤ s.now
  | .peerExpiry n => ∃ q ∈ s.tally.peers, q.station = n ∧ q.due ≤ s.now
  | .ownCycleExpiry => ∃ d, s.tally.cycleTimer = some d ∧ d ≤ s.now
  | .presenceScan => ∃ d, s.scanTimer = some d ∧ d ≤ s.now
  | .faultWindowExpiry p => ∃ d, (s.seat p).faultWindow = some d ∧ d ≤ s.now
  | .quietTimerExpiry p => ∃ d, (s.seat p).quietTimer = some d ∧ d ≤ s.now
  | .pauseRefreshExpiry p => ∃ d, (s.seat p).refreshTimer = some d ∧ d ≤ s.now
  | .receivedPauseExpiry p => ∃ d, (s.seat p).rxPause = some d ∧ d ≤ s.now
  | .livenessExpiry r => ∃ d, (s.radio r).liveness = some d ∧ d ≤ s.now
  | .holdOffExpiry i => (s.client i).state = .probation ∧ ∃ d, (s.client i).timer = some d ∧ d ≤ s.now
  | .drainExpiry i => (s.client i).state = .leaving ∧ ∃ d, (s.client i).timer = some d ∧ d ≤ s.now
  | .tombstoneExpiry i => (s.client i).state = .moved ∧ ∃ d, (s.client i).timer = some d ∧ d ≤ s.now
  | .idleExpiry i => (s.client i).state = .localHeld ∧ s.op = .running ∧
      Config.secTicks s.cfg.idleLimitS ≤ s.idleTicks (s.client i)
  | _ => False

/-- The expiry commands: those that the clock raises (log entry 2). -/
def isExpiry : Instr → Prop
  | .startDelayExpiry | .holdTimerExpiry | .exitSettleWindowExpiry | .gapTimerExpiry
  | .stuckLineTimerExpiry | .backoffTimerExpiry | .peerExpiry _ | .ownCycleExpiry | .presenceScan
  | .faultWindowExpiry _ | .quietTimerExpiry _ | .pauseRefreshExpiry _ | .receivedPauseExpiry _
  | .livenessExpiry _ | .holdOffExpiry _ | .drainExpiry _ | .tombstoneExpiry _ | .idleExpiry _ => True
  | _ => False

/-- The expiry `c` of a timer due at `d` was not overtaken: either the clock has not raised it, and its sender
gives it for the moment `d`, or its time has come (log entry 2). -/
def State.Timely (s : State) (c : Instr) (d : Nat) : Prop := c ∈ s.raised → d ≤ s.now

/-- The expiry `c` no longer waits, and nothing else has changed. -/
def State.without (s : State) (c : Instr) : State := { s with raised := s.raised.erase c }

/-- The expiry `c` of a timer due at `d` is taken: it no longer waits, the clock stands at `d`, or where it
already was past it, and nothing else has changed but the running clock (log entry 2). -/
def State.atTime (s : State) (c : Instr) (d : Nat) : State :=
  { s with raised := s.raised.erase c
           now := max s.now d
           runNow := if s.op = .running then s.runNow + (d - s.now) else s.runNow }

/-! ## Seat ports -/

/-- The port `p` goes from UP to QUIET between `s` and `t` (R131), and its PROBATION and LOCAL clients lose
their attachment (R61). -/
structure Quarantined (s t : State) (p : Fin 32) : Prop where
  port : (t.seat p).state = .quiet ∧ (t.seat p).quietTimer = some (s.now + Config.quietTicks) ∧
    (t.seat p).queue = [] ∧ (t.seat p).tx = .idle
  stopped : (t.seat p).faultWindow = none ∧ (t.seat p).refreshTimer = none ∧ (t.seat p).rxPause = none ∧
    (t.seat p).pausing = false ∧ (t.seat p).pendingPause = none
  others : OtherSeats s t p
  alert : Raised s t Alert.PORT_QUIET
  counts : Counted s t Ctr.SEAT_QUIET_ENTRIES ∧
    Counted s t Ctr.SEAT_EGRESS_FLUSHED (s.seat p).queue.length
  clients : ∀ i, t.client i =
    if (s.client i).attach = .seat p then (s.client i).afterLoss s.now else s.client i
  kept : t.line = s.line ∧ t.sched = s.sched ∧ t.radios = s.radios ∧ t.tally = s.tally ∧
    t.claimSeq = s.claimSeq ∧ t.outer = s.outer

/-- A pause of a time becomes the pending pause of a port (R128), and the transmit side, in UP and IDLE with
link, begins to send it at once (R133). -/
def SeatPort.pauseMade (q : SeatPort) (time : BitVec 16) : SeatPort :=
  if q.state = .up ∧ q.tx = .idle ∧ q.link = true then
    { q with pendingPause := none, tx := .sendingPause time }
  else { q with pendingPause := some time }

/-- Entry `j` is a client of port `p`: PROBATION, LOCAL or LEAVING, attached there (R127). -/
def State.ClientOf (s : State) (p : Fin 32) (j : Fin 256) : Prop :=
  ((s.client j).state = .probation ∨ (s.client j).state = .localHeld ∨ (s.client j).state = .leaving) ∧
    (s.client j).attach = .seat p

/-! ## The scheduler -/

/-- Entry `i` is a candidate of a phase (R110, R111): PROBATION, LOCAL or LEAVING with frames queued, in a
class of priority above 0, and in the quota phase of used below its quota. -/
def State.Candidate (s : State) (ph : Phase) (i : Fin 256) : Prop :=
  ((s.client i).state = .probation ∨ (s.client i).state = .localHeld ∨ (s.client i).state = .leaving) ∧
    (s.client i).queue ≠ [] ∧ 0 < s.cfg.priority (s.client i).cls ∧
    (ph = .quota → (s.client i).used < (s.client i).quota)

/-- Entry `i` is the one a selection with credit serves in phase `ph`: a candidate, the spill phase with no
candidate in the quota phase (R111), in the class of highest priority, ties to the lower class number (R112),
and in that class the first from the entry after the pointer, wrapping (R113). -/
structure State.Served (s : State) (ph : Phase) (i : Fin 256) : Prop where
  candidate : s.Candidate ph i
  quotaFirst : ph = .spill → ∀ j, ¬ s.Candidate .quota j
  topClass : ∀ j, s.Candidate ph j →
    s.cfg.priority (s.client j).cls < s.cfg.priority (s.client i).cls ∨
    s.cfg.priority (s.client j).cls = s.cfg.priority (s.client i).cls ∧
      (s.client i).cls.num ≤ (s.client j).cls.num
  roundRobin : ∀ j, s.Candidate ph j → (s.client j).cls = (s.client i).cls →
    let steps (k : Fin 256) : Nat := (k.val + 255 - (s.sched.ptr ph (s.client i).cls).val) % 256
    steps i ≤ steps j

/-- The head frame `rec` of entry `i`, with `rest` behind it, is handed over in phase `ph` between `s` and `t` and
charged (R10, R11, R114): it goes to the slot and onto the line with its send sequence. A LEAVING entry that
this empties goes FREE (R63). -/
structure Handover (s t : State) (ph : Phase) (i : Fin 256) (rec : UplinkRec) (rest : List UplinkRec) :
    Prop where
  slot : t.line.slot = some { phase := .sending, content := .passenger rec, seq := s.line.seqPassenger
                              attempts := 0 }
  line : t.line.seqPassenger = s.line.seqPassenger + 1 ∧ t.line.line = .busy ∧ t.line.queue = s.line.queue ∧
    t.line.stuckTimer = some (t.now + Config.stuckTicks)
  charge : t.sched.credit = s.sched.credit - rec.frame.size ∧
    t.sched.cycleCharge = s.sched.cycleCharge + rec.frame.size ∧ t.sched.aeff = s.sched.aeff
  pointer : ∀ ph' k, t.sched.ptr ph' k =
    if ph' = ph ∧ k = (s.client i).cls then i else s.sched.ptr ph' k
  quotaCounts : Counted s t Ctr.SCHED_QUOTA_FRAMES (if ph = .quota then 1 else 0) ∧
    Counted s t Ctr.SCHED_QUOTA_BLOCKS (if ph = .quota then rec.frame.size else 0)
  spillCounts : Counted s t Ctr.SCHED_SPILL_FRAMES (if ph = .spill then 1 else 0) ∧
    Counted s t Ctr.SCHED_SPILL_BLOCKS (if ph = .spill then rec.frame.size else 0) ∧
    Counted s t Ctr.SCHED_NO_CREDIT 0
  kept : OtherClients s t i ∧ t.mem = s.mem ∧ t.tally = s.tally ∧ t.radios = s.radios
  entry : (s.client i).state ≠ .leaving ∨ rest ≠ [] →
    t.notices = s.notices ∧ t.alerts = s.alerts ∧
    t.client i = { s.client i with
      queue := rest, charged := true
      used := if ph = .quota then min 65535 ((s.client i).used + rec.frame.size) else (s.client i).used }
  drained : (s.client i).state = .leaving → rest = [] →
    t.client i = (s.client i).afterFreeing ∧ Counted s t Ctr.CLIENT_LEFT_LEAVE ∧
    Posted s t (.clientLeft i (s.client i).tenancy (s.client i).addr (s.client i).attach .leave)

/-- A seat frame answered QUEUE is taken in for entry `i` between `s` and `t`, whose uplink queue held `old`
(R54, R57, R93, R94, R126): discarded for a barred class, dropped at the client's limit, dropped at a short
pool, or stored and appended. -/
structure TakenIn (s t : State) (i : Fin 256) (bytes : List Byte) (old : List UplinkRec) : Prop where
  barred : s.cfg.priority (t.client i).cls = 0 →
    (t.client i).queue = old ∧ t.mem.uplinkFree = s.mem.uplinkFree ∧ Counted s t Ctr.CLIENT_RX_BARRED
  limit : 0 < s.cfg.priority (t.client i).cls →
    s.cfg.uplinkLimit < (old.map (·.frame.size)).sum + (bytes.length + 127) / 128 →
    (t.client i).queue = old ∧ t.mem.uplinkFree = s.mem.uplinkFree ∧ Counted s t Ctr.SEAT_RX_LIMIT_DROP
  short : 0 < s.cfg.priority (t.client i).cls →
    (old.map (·.frame.size)).sum + (bytes.length + 127) / 128 ≤ s.cfg.uplinkLimit →
    s.mem.uplinkFree.length < (bytes.length + 127) / 128 →
    (t.client i).queue = old ∧ t.mem.uplinkFree = s.mem.uplinkFree ∧ Counted s t Ctr.POOL_UPLINK_SHORT
  queued : 0 < s.cfg.priority (t.client i).cls →
    (old.map (·.frame.size)).sum + (bytes.length + 127) / 128 ≤ s.cfg.uplinkLimit →
    (bytes.length + 127) / 128 ≤ s.mem.uplinkFree.length →
    (t.client i).queue = old ++ [{
      frame := { blocks := s.mem.uplinkFree.take ((bytes.length + 127) / 128), data := bytes }
      cls := (t.client i).cls, owner := i }] ∧
    t.mem.uplinkFree = s.mem.uplinkFree.drop ((bytes.length + 127) / 128) ∧ Counted s t Ctr.SEAT_RX_QUEUED

/-! ## The line -/

/-- The part receives a line frame that passes every check of R2: it is RUNNING or HOLD, its transmitter
is not SENDING, and the bytes read as the header `h` and the body `b`. -/
def State.Receives (s : State) (bytes : List Byte) (h : Header) (b : Body) : Prop :=
  s.active = true ∧ s.line.driving = false ∧ classifyLine (some s.cfg.station) bytes = .good h b

/-- The radio `r` is UP and takes the message `m` that the bytes carry (R140). -/
def State.RadioTakes (s : State) (r : Fin 6) (bytes : List Byte) (m : RadioMsg) : Prop :=
  (s.radio r).state = .up ∧ parseRadio bytes = some m

/-- The radios as they stand once a message on `r` has shown its link signal (log entry 6). -/
def State.heardOn (s : State) (r : Fin 6) : Vector RadioLink 6 :=
  s.radios.set r { s.radio r with signal := true }

/-- The flap window of an entry is open (R85): from its start until 10 s later. At that last moment itself it
counts as ended, which the manual leaves open (DESIGN CHOICE, log entry 33). -/
def State.windowOpen (s : State) (i : Fin 256) : Bool :=
  match (s.client i).flapStart with
  | some start => s.now < start + Config.flapTicks
  | none => false

/-- The control queue after a CLAIM or RELEASE is posted (R18). -/
def LineIf.withRecord (l : LineIf) (r : CtrlRec) : List CtrlRec :=
  if l.queue.length < Config.controlQueueCap then l.queue ++ [r] else l.queue

/-- The transmitter looks for a frame between `s` and `t` with the control queue standing at `q` (R10, R11): at
a send opportunity the oldest record goes to the slot and onto the line, and otherwise the queue stands. -/
def Sent (s t : State) (q : List CtrlRec) : Prop :=
  if s.line.slot = none ∧ s.line.line = .idle ∧ s.active = true then
    ∃ first rest, q = first :: rest ∧ t.line.queue = rest ∧ t.line.line = .busy ∧
      t.line.slot = some { phase := .sending, content := .control first
                           seq := s.line.seqOf (Content.control first).kind, attempts := 0 } ∧
      ∀ k, t.line.seqOf k =
        if k = (Content.control first).kind then s.line.seqOf k + 1 else s.line.seqOf k
  else t.line = { s.line with queue := q }

/-- The CLAIM or RELEASE `r` is posted between `s` and `t` (R10, R11, R18): it is placed in the control
queue, and the transmitter looks for a frame. -/
def Offered (s t : State) (r : CtrlRec) : Prop := Sent s t (s.line.withRecord r)

/-- A station's TALLY read from a frame's body gives the peer entry (R25, R27). -/
def peerOf (station : Nat) (seq : BitVec 8) (b : TallyBody) (now lost : Nat) : Peer :=
  { station := station, period := b.period, lastSeq := seq, d := b.d, w := b.w, a := b.a
    clients := b.clients, hold := b.hold, conflict := b.conflict
    due := now + Config.msTicks (3 * (10 * b.period)), lost := lost }

/-! ## The management port -/

/-- The operating states in which every command is judged by its own checks (R169). -/
def State.TakesCommands (s : State) : Prop := s.op = .unconfigured ∨ s.op = .running ∨ s.op = .hold

/-- The commands of the management port that answer NOT_READY in STARTING and LOADING (R169). -/
def answersNotReady : Instr → Prop
  | .readCounter _ | .clearCounters | .readClient _ | .readPeer _ | .peekNotice | .popNotice
  | .promote .. | .evict .. | .readAlert | .ackAlert .. | .maskSet _ | .maskClear _
  | .loadImageWord .. | .start | .restart => True
  | _ => False

/-- The source `a` can assert ALERT_N: pending, unmasked and of priority above 0 (R174, R176). -/
def State.Asserts (s : State) (a : AlertNo) : Prop :=
  (s.alert a).pending = true ∧ (s.alert a).mask = false ∧ 0 < (s.alert a).priority

/-! ## Laws -/

/-- The collections stay within their capacities: the control queue of 8 records with at most one TALLY
(R17, R19), the notice queue of 32 (R170), a link's DROP list of 8 (R151); and the attempt count of a
frame kept in the slot stays below 12 (R14, R15). -/
structure State.Bounded (s : State) : Prop where
  control : s.line.queue.length ≤ 8
  oneTally : (s.line.queue.filter CtrlRec.isTally).length ≤ 1
  notices : s.notices.length ≤ 32
  drops : ∀ r, (s.radio r).drops.length ≤ 8
  attempts : ∀ x, s.line.slot = some x → x.attempts < 12

/-- The settings in effect lie in the ranges of the image (10.4, R164), C before F. -/
structure Settings.Lawful (c : Settings) : Prop where
  period : 10 ≤ c.period ∧ c.period ≤ 200
  capacity : 1024 ≤ c.capacity ∧ c.capacity ≤ 65535
  floor : c.floor ≤ c.capacity / 64
  uplinkDepth : 256 ≤ c.uplinkDepth ∧ c.uplinkDepth ≤ 1792
  uplinkLimit : 8 ≤ c.uplinkLimit ∧ c.uplinkLimit ≤ 255
  seatEgressLimit : 16 ≤ c.seatEgressLimit ∧ c.seatEgressLimit ≤ 255
  radioEgressLimit : 32 ≤ c.radioEgressLimit ∧ c.radioEgressLimit ≤ 1023
  clientsPerPort : 1 ≤ c.clientsPerPort ∧ c.clientsPerPort ≤ 4
  holdOff : 20 ≤ c.holdOffMs ∧ c.holdOffMs ≤ 500
  tombstone : 1 ≤ c.tombstoneS ∧ c.tombstoneS ≤ 10
  idleLimit : 30 ≤ c.idleLimitS ∧ c.idleLimitS ≤ 3600
  holdLimit : 1 ≤ c.holdLimitS ∧ c.holdLimitS ≤ 60
  weights : ∀ k, c.weight k ≤ 15
  priorities : ∀ k, c.priority k ≤ 15

/-- The settings in effect are lawful, and while the part is RUNNING or HOLD the own station and the
gateway are station numbers, and differ (R164); a RESTART awaits its reset in RUNNING or HOLD only
(R162, the mark of log entry 25). -/
structure State.SettingsLawful (s : State) : Prop where
  ranges : s.cfg.Lawful
  stations : s.active = true → 1 ≤ s.cfg.station ∧ s.cfg.station ≤ 4094 ∧ 1 ≤ s.cfg.gateway ∧
    s.cfg.gateway ≤ 4094 ∧ s.cfg.gateway ≠ s.cfg.station
  armed : s.restartArmed = true → s.active = true

/-- The peer table (2.2, R24): at most 31 entries in strictly ascending station number, never the own
station, the gateway, 0 or 4095; each field in its range; empty outside RUNNING and HOLD (R23). -/
structure State.PeersLawful (s : State) : Prop where
  capacity : s.tally.peers.length ≤ 31
  ascending : s.tally.peers.Pairwise (fun p q => p.station < q.station)
  stations : ∀ q ∈ s.tally.peers, 1 ≤ q.station ∧ q.station ≤ 4094 ∧ q.station ≠ s.cfg.station ∧
    q.station ≠ s.cfg.gateway
  ranges : ∀ q ∈ s.tally.peers, 10 ≤ q.period ∧ q.period ≤ 200 ∧ q.d ≤ 65535 ∧ q.w ≤ 3840 ∧
    q.a ≤ 65535 ∧ q.clients ≤ 256 ∧ q.lost ≤ 65535
  stopped : s.active = false → s.tally.peers = []

/-- The blocks a content of the slot holds in the UPLINK pool (R95). -/
def Content.uplinkBlocks : Content → List Nat
  | .passenger rec => rec.frame.blocks
  | .control _ => []

/-- The blocks of the passenger frame in the transmitter slot. -/
def LineIf.uplinkBlocks (l : LineIf) : List Nat :=
  match l.slot with
  | some x => x.content.uplinkBlocks
  | none => []

/-- The blocks of the uplink queues of all entries, in entry order. -/
def State.queuedBlocks (s : State) : List Nat :=
  (s.clients.toList.map (fun c => (c.queue.map (·.frame.blocks)).flatten)).flatten

/-- The UPLINK pool (R50, R91, R92, R94): an entry outside PROBATION, LOCAL and LEAVING has no frame; a
queued frame names the entry it stands in and takes 1 to 12 blocks; the blocks free, queued and in the
slot are together each block of the pool once; no depth passes the 2048 blocks; and nothing is stored outside
RUNNING and HOLD. That the pool's blocks are the lowest numbers is the model's choice (log entry 9). -/
structure State.UplinkLawful (s : State) : Prop where
  absent : ∀ i, (s.client i).state.present = false → (s.client i).queue = []
  owned : ∀ i, ∀ rec ∈ (s.client i).queue, rec.owner = i ∧ 1 ≤ rec.frame.size ∧ rec.frame.size ≤ 12
  blocks : (s.mem.uplinkFree ++ s.queuedBlocks ++ s.line.uplinkBlocks).Perm (List.range s.mem.depth)
  depth : s.mem.depth ≤ 2048 ∧ s.cfg.uplinkDepth ≤ 2048
  stopped : s.active = false → s.queuedBlocks = [] ∧ s.line.slot = none

/-- The egress positions of all ports and links. -/
def State.positions (s : State) : List EgressPos :=
  (s.seats.toList.map (·.queue)).flatten ++ (s.radios.toList.map (·.queue)).flatten

/-- The blocks of a unicast position; a group frame's blocks are counted at its record. -/
def EgressPos.unicastBlocks : EgressPos → List Nat
  | .unicast r => r.frame.blocks
  | .group _ => []

/-- The number of positions in a queue that hold the group frame `f`. -/
def groupPositions (f : Frame) (q : List EgressPos) : Nat := q.count (.group f)

/-- The DOWNLINK pool (R91, R92, R98, R100): a group record's reference count is the number of positions
that hold its frame, and is never 0; a group position's record exists; no queue holds a group frame
twice; the blocks free, of unicast positions and of group records are together each block of the pool
once; and nothing is stored outside RUNNING and HOLD. That the pool's blocks are the numbers above the UPLINK
pool's is the model's choice (log entry 9). -/
structure State.DownlinkLawful (s : State) : Prop where
  counts : ∀ g ∈ s.mem.groups, g.refs = groupPositions g.frame s.positions ∧ 1 ≤ g.refs
  recorded : ∀ f, .group f ∈ s.positions → ∃ g ∈ s.mem.groups, g.frame = f
  once : (∀ p f, groupPositions f (s.seat p).queue ≤ 1) ∧ (∀ r f, groupPositions f (s.radio r).queue ≤ 1)
  sizes : ∀ pos ∈ s.positions, 1 ≤ pos.frame.size
  blocks : (s.mem.downlinkFree ++ (s.positions.map (·.unicastBlocks)).flatten ++
    (s.mem.groups.map (·.frame.blocks)).flatten).Perm
      (List.range' s.mem.depth (2048 - s.mem.depth))
  stopped : s.active = false → s.positions = [] ∧ s.mem.groups = []

/-- The client table (R47 to R49, R72, R82, R85): an entry that is not FREE stands in the bucket of its
address, no address is held twice, the entry's timer runs in PROBATION, LEAVING and MOVED and in no other
state, a reattachment is pending in MOVED only, and a reclaim count is at most 3. -/
structure State.TableLawful (s : State) : Prop where
  bucket : ∀ i, (s.client i).state ≠ .free → i ∈ waysOf (s.client i).addr
  unique : ∀ i j, (s.client i).state ≠ .free → (s.client j).state ≠ .free →
    (s.client i).addr = (s.client j).addr → i = j
  timers : ∀ i, (s.client i).timer.isSome = true ↔
    (s.client i).state = .probation ∨ (s.client i).state = .leaving ∨ (s.client i).state = .moved
  pendingJoin : ∀ i, (s.client i).pendingJoin.isSome = true → (s.client i).state = .moved
  flaps : ∀ i, (s.client i).flapCount ≤ 3

/-- The scheduler (R114, R116): the credit lies between −11 and max(A, F), an entry's used exceeds its
quota by at most 11, and no queued frame exceeds 12 blocks. -/
structure State.CreditLawful (s : State) : Prop where
  lower : -11 ≤ s.sched.credit
  upper : s.sched.credit ≤ ((max s.tally.lastA s.cfg.floor : Nat) : Int)
  used : ∀ i, (s.client i).used ≤ (s.client i).quota + 11
  sizes : ∀ i, ∀ rec ∈ (s.client i).queue, rec.frame.size ≤ 12

/-- Seat ports and radio links (R121, R131, R132, R136, R139, R143, R147, R152): outside RUNNING each is
HELD; what is not UP sends nothing and holds no frame; a link that is not UP has no DROP pending and no
liveness timer; the QUIET timer runs in QUIET only; and an egress queue stays within its limit. -/
structure State.LinksLawful (s : State) : Prop where
  held : s.op ≠ .running → (∀ p, (s.seat p).state = .held) ∧ (∀ r, (s.radio r).state = .held)
  seatDown : ∀ p, (s.seat p).state ≠ .up → (s.seat p).queue = [] ∧ (s.seat p).tx = .idle
  quiet : ∀ p, (s.seat p).quietTimer.isSome = true → (s.seat p).state = .quiet
  seatLimit : ∀ p, queueBlocks (s.seat p).queue ≤ s.cfg.seatEgressLimit
  radioDown : ∀ r, (s.radio r).state ≠ .up →
    (s.radio r).queue = [] ∧ (s.radio r).tx = .idle ∧ (s.radio r).drops = [] ∧ (s.radio r).liveness = none
  radioLimit : ∀ r, queueBlocks (s.radio r).queue ≤ s.cfg.radioEgressLimit

/-- The line interface (R8 to R10, R14, R16): once the part has left reset, the gap timer runs in GAP
only and always, the stuck-line timer runs in BUSY only, carrier heard or driven means BUSY; the backoff
timer runs in BACKOFF only and always; and the slot is full in RUNNING and HOLD only. -/
structure State.LineLawful (s : State) : Prop where
  gap : s.op ≠ .inReset → (s.line.gapTimer.isSome = true ↔ s.line.line = .gap)
  stuck : s.op ≠ .inReset → s.line.stuckTimer.isSome = true → s.line.line = .busy
  carrier : s.op ≠ .inReset → s.line.carrier = true ∨ s.line.driving = true → s.line.line = .busy
  backoff : s.line.backoffTimer.isSome = true ↔ ∃ x, s.line.slot = some x ∧ x.phase = .backoff
  slot : s.line.slot.isSome = true → s.active = true

end Sys2Proof.Machine
end

