-- ==== Sys2Proof/Certificates/Slice0/Obligations.lean ====
section
/-!
DEFINITION. The statements for the provers.
-/

open Sys2Proof Sys2Proof.Machine

/-! ## Steps, time and resets -/

/-- A step takes the command at the front of the queue, and its outcome is the command's effect on the state
with the rest of the queue. (From 95_what_each_step_holds.md.) -/
def Obligations.StepTakesTheFrontCommand : Prop :=
  ∀ (c : Instr) (rest : List Instr) (s : State), s.pending = c :: rest →
    step s = exec c { s with pending := rest }

/-- On an empty queue one tick of 80 ns passes, nothing but the clocks and the queue changes, and the commands
that then wait are exactly the expiries that are due (the model's choice, log entries 2 and 7). An expiry
that so waits and is no longer due when it is taken, since a command taken before it has stopped its timer
or started it anew, does not happen. Choices of the model in it: log entries 2, 7. (From R25, 00_scope.md,
Conventions.) -/
def Obligations.IdleStepBringsTheDueExpiries : Prop :=
  (∀ s : State, s.pending = [] →
    ∃ t, step s = .next t ∧
      t = { s with now := s.now + 1, runNow := t.runNow, pending := t.pending, raised := t.pending } ∧
      t.runNow = (if s.op = .running then s.runNow + 1 else s.runNow) ∧
      ∀ c, c ∈ t.pending ↔ t.Due c) ∧
  (∀ (s : State) (c : Instr), isExpiry c → c ∈ s.raised → ¬ s.Due c → exec c s = .next (s.without c))

/-- Power-up, supply dip and the reset pin: every block in its start condition, the counters 0, the cause record
its own flag alone, the default image held and in effect; the inputs are kept. The state after reset is the
one a power-up leaves, with the inputs low (log entry 1) and the speed input of every PHY at 100 Mb/s (log
entry 20). Choices of the model in it: log entries 1, 20, 21, 24. (From R21, R23, R46, R89, R90, R102, R104,
R121, R139, R162, R170, R173.) -/
def Obligations.ResetsClearThePart : Prop :=
  (State.reset.StartCondition ∧ State.reset.op = .inReset ∧
    State.reset.ctl.cause =
      { power := true, dip := false, pin := false, restart := false, outcome := .none } ∧
    State.reset.ctl.image = defaultImage ∧ State.reset.pending = [] ∧ State.reset.raised = [] ∧
    State.reset.line.carrier = false ∧ State.reset.ctl.holdInput = false ∧
    State.reset.ctl.supplyOk = false ∧ State.reset.ctl.resetN = false ∧
    (∀ p, (State.reset.seat p).link = false ∧ (State.reset.seat p).phySpeed = .mb100) ∧
    (∀ r, (State.reset.radio r).signal = false) ∧
    (∀ c : Counter, State.reset.counters[c] = 0) ∧
    (∀ a, State.reset.alert a = { pending := false, count := 0, mask := false, priority := 8 }) ∧
    State.reset.alertN = true ∧ imageGood defaultImage = false ∧
    (defaultImage.toList.map (·.toNat)).sum % 65536 = 0) ∧
  (∀ (s : State) (c : Instr) (cause : ResetCause),
      (c = .powerUp ∧ cause = { power := true, dip := false, pin := false, restart := false, outcome := .none } ∨
       c = .supplyDip ∧ cause = { power := false, dip := true, pin := false, restart := false, outcome := .none } ∨
       c = .resetPin ∧ cause = { power := false, dip := false, pin := true, restart := false, outcome := .none }) →
      ∃ t, exec c s = .next t ∧ t.StartCondition ∧ t.op = .inReset ∧ t.ctl.cause = cause ∧
        t.ctl.image = defaultImage ∧ t.cfg = Settings.ofImage defaultImage ∧
        (∀ k : Counter, t.counters[k] = 0) ∧ (∀ a, (t.alert a).mask = false ∧ (t.alert a).priority = 8) ∧
        t.pending = s.pending ∧ t.raised = s.raised ∧ t.draws = s.draws ∧ t.line.carrier = s.line.carrier ∧
        t.ctl.holdInput = s.ctl.holdInput ∧
        (∀ p, (t.seat p).link = (s.seat p).link ∧ (t.seat p).phySpeed = (s.seat p).phySpeed) ∧
        (∀ r, (t.radio r).signal = (s.radio r).signal))

/-- The reset that RESTART arranged: the counters, the image, the settings and the cause record with the RESTART
flag are kept, every block starts afresh, and the part is RUNNING with the hand-over made. Where the HOLD
input is asserted, Hold entry waits at the front of the queue as an event of its own, and the next step
takes the part to HOLD. The mark restartArmed, and RESTART_RESET as the end of the transaction, are the
model's (log entry 25), and so are the block numbers of each pool (log entry 9). Where no RESTART was
answered OK it changes nothing (log entry 4). Choices of the model in it: log entries 4, 9, 24, 25, 27.
(From R8, R21, R46, R89, R161, R162, R166.) -/
def Obligations.RestartResetReturnsToRunning : Prop :=
  ∀ s : State,
    (s.restartArmed = false → exec .restartReset s = .next s) ∧
    (s.restartArmed = true →
      ∃ t, exec .restartReset s = .next t ∧ t.ctl.image = s.ctl.image ∧ t.cfg = s.cfg ∧
        t.ctl.cause = { s.ctl.cause with restart := true } ∧ t.raised = s.raised ∧ t.restartArmed = false ∧
        (∀ i, (t.client i).state = .free ∧ (t.client i).tenancy = 0) ∧ t.claimSeq = 0 ∧
        t.tally.peers = [] ∧ t.line.slot = none ∧ t.line.queue = [] ∧ (∀ k, t.line.seqOf k = 0) ∧
        t.notices = [] ∧
        t.line.line = (if s.line.carrier = true then .busy else .gap) ∧
        t.op = .running ∧ t.HandedOver ∧ t.counters = s.counters ∧
        (∀ a, (t.alert a).pending = false ∧ (t.alert a).count = 0) ∧
        (s.ctl.holdInput = false → t.pending = s.pending) ∧
        (s.ctl.holdInput = true → t.pending = .holdEntry :: s.pending ∧
          ∃ u, step t = .next u ∧ u.op = .hold ∧ u.pending = s.pending ∧ u.sched.credit = 0 ∧
            u.sched.aeff = 0 ∧ (∀ p, (u.seat p).state = .held) ∧ (∀ r, (u.radio r).state = .held) ∧
            Counted t u Ctr.HOLD_ENTRIES ∧ Raised t u Alert.HOLD_CHANGE))

/-- The release of a reset starts the start delay and sets the line state from carrier present; the expiry of
the start delay begins the read of the configuration memory. A memory that gives no answer, and an image
that fails its check at a load completion or at START, leave the part UNCONFIGURED with CONFIG raised and
the settings in effect as they were. Choices of the model in it: log entries 1, 2, 4. (From R8, R9, R161,
R162, R163, R164, R165.) -/
def Obligations.StartSequenceAndFailedImages : Prop :=
  (∀ s : State, s.op = .inReset →
    ∃ t, exec .resetRelease s = .next t ∧
      t = { s with
        ctl := { s.ctl with op := .starting, supplyOk := true, resetN := true
                            startDelay := some (s.now + Config.startDelayTicks) }
        line := t.line } ∧
      (s.line.carrier = true → t.line = { s.line with
        line := .busy, gapTimer := none, stuckTimer := some (s.now + Config.stuckTicks) }) ∧
      (s.line.carrier = false → t.line = { s.line with
        line := .gap, gapTimer := some (s.now + Config.gapTicks), stuckTimer := none })) ∧
  (∀ s : State, s.op ≠ .inReset → exec .resetRelease s = .next s) ∧
  (∀ (s : State) (d : Nat), s.op = .starting → s.ctl.startDelay = some d →
    s.Timely .startDelayExpiry d →
    exec .startDelayExpiry s = .next { s.atTime .startDelayExpiry d with
      ctl := { s.ctl with op := .loading, startDelay := none } }) ∧
  (∀ s : State, s.op ≠ .starting ∨ s.ctl.startDelay = none →
    exec .startDelayExpiry s = .next (s.without .startDelayExpiry)) ∧
  (∀ s : State, s.op = .loading →
    exec (.loadCompletion none) s = .next { s with
      ctl := { s.ctl with op := .unconfigured, cause := { s.ctl.cause with outcome := .absent } }
      alerts := s.alerts.set Alert.CONFIG (s.alert Alert.CONFIG).raised }) ∧
  (∀ (s : State) (img : Image), s.op = .loading → ¬ ImagePasses img →
    exec (.loadCompletion (some img)) s = .next { s with
      ctl := { s.ctl with op := .unconfigured, image := img
                          cause := { s.ctl.cause with outcome := .badCheck } }
      alerts := s.alerts.set Alert.CONFIG (s.alert Alert.CONFIG).raised }) ∧
  (∀ s : State, s.op = .unconfigured → ¬ ImagePasses s.ctl.image →
    exec .start s = .next { s with
      ctl := { s.ctl with op := .unconfigured, cause := { s.ctl.cause with outcome := .badCheck } }
      alerts := s.alerts.set Alert.CONFIG (s.alert Alert.CONFIG).raised
      response := [0] }) ∧
  (∀ (s : State) (o : Option Image), s.op ≠ .loading → exec (.loadCompletion o) s = .next s)

/-- An image that passes its check, at a load completion or at START, takes the part to RUNNING with the
settings in effect handed to every block. Where the HOLD input is asserted, the part is RUNNING with every
block set up, and Hold entry waits at the front of the queue as an event of its own; the next step takes the
part to HOLD. Choices of the model in it: log entries 9, 27. (From R10, R23, R90, R105, R121, R139, R155,
R161, R163, R164, R165, R173.) -/
def Obligations.GoodImageReachesRunning : Prop :=
  ∀ (s : State) (c : Instr) (img : Image),
    (c = .loadCompletion (some img) ∧ s.op = .loading ∨
     c = .start ∧ s.op = .unconfigured ∧ img = s.ctl.image) →
    ImagePasses img → (∀ i, (s.client i).state = .free) →
    ∃ t, exec c s = .next t ∧ t.ctl.image = img ∧ t.cfg = Settings.ofImage img ∧
      t.ctl.cause = { s.ctl.cause with
        outcome := if imageClamped img = true then .clamped else .good } ∧
      (c = .start → t.response = [0]) ∧
      (∀ i, t.client i = s.client i) ∧ t.tally.peers = s.tally.peers ∧ t.notices = s.notices ∧
      t.op = .running ∧ t.HandedOver ∧ t.counters = s.counters ∧ t.raised = s.raised ∧
      (∀ a, (t.alert a).pending = ((s.alert a).pending || (imageClamped img && a == Alert.CONFIG)) ∧
        (t.alert a).count = (s.alert a).count + (if imageClamped img = true ∧ a = Alert.CONFIG then 1 else 0)) ∧
      (s.ctl.holdInput = false → t.pending = s.pending) ∧
      (s.ctl.holdInput = true → t.pending = .holdEntry :: s.pending ∧
        ∃ u, step t = .next u ∧ u.op = .hold ∧ u.pending = s.pending ∧ Counted t u Ctr.HOLD_ENTRIES ∧
          Raised t u Alert.HOLD_CHANGE ∧ (∀ p, (u.seat p).state = .held) ∧ ∀ r, (u.radio r).state = .held)

/-- The settings an image gives: each ranged field in its range, or at the nearer end of it, C before F; the
packed fields as the image lays them out. (From R164, 10_start_configuration_image_and_hold.md, 10.4.) -/
def Obligations.ImageFieldsAreClamped : Prop :=
  ∀ img : Image, (Settings.ofImage img).Lawful ∧
    (Settings.ofImage img).station = img[1].toNat ∧ (Settings.ofImage img).gateway = img[2].toNat ∧
    Nearest 10 200 img[3].toNat (Settings.ofImage img).period ∧
    Nearest 1024 65535 img[4].toNat (Settings.ofImage img).capacity ∧
    Nearest 0 ((Settings.ofImage img).capacity / 64) img[5].toNat (Settings.ofImage img).floor ∧
    Nearest 256 1792 img[6].toNat (Settings.ofImage img).uplinkDepth ∧
    Nearest 8 255 img[7].toNat (Settings.ofImage img).uplinkLimit ∧
    Nearest 16 255 img[8].toNat (Settings.ofImage img).seatEgressLimit ∧
    Nearest 32 1023 img[9].toNat (Settings.ofImage img).radioEgressLimit ∧
    Nearest 1 4 img[10].toNat (Settings.ofImage img).clientsPerPort ∧
    Nearest 20 500 img[11].toNat (Settings.ofImage img).holdOffMs ∧
    Nearest 1 10 img[12].toNat (Settings.ofImage img).tombstoneS ∧
    Nearest 30 3600 img[13].toNat (Settings.ofImage img).idleLimitS ∧
    Nearest 1 60 img[14].toNat (Settings.ofImage img).holdLimitS ∧
    (∀ k : PClass, (Settings.ofImage img).weight k = img[15].toNat / 16 ^ (3 - k.num.val) % 16 ∧
      (Settings.ofImage img).priority k = img[16].toNat / 16 ^ (3 - k.num.val) % 16) ∧
    (∀ k : Fin 4, ((Settings.ofImage img).netClasses[k]).num.val = img[17].toNat / 4 ^ (3 - k.val) % 4) ∧
    (∀ p : Fin 32, ((Settings.ofImage img).portClasses[p]).num.val =
      (img[18 + p.val / 8]'(by omega)).toNat / 4 ^ (7 - p.val % 8) % 4) ∧
    (∀ a : AlertNo, (Settings.ofImage img).alertPriorities[a] =
      (img[22 + a.val / 4]'(by omega)).toNat / 16 ^ (3 - a.val % 4) % 16) ∧
    (∀ a : AlertNo, (Settings.ofImage img).alertMask.getLsbD a.val = img[25].getLsbD a.val) ∧
    (∀ n : Fin 256, (Settings.ofImage img).groupFilter.getLsbD n.val =
      (img[26 + n.val / 16]'(by omega)).getLsbD (n.val % 16))

/-! ## Hold -/

/-- Hold entry in RUNNING: the operating state, the hold timer, the credit, every seat port and radio link, and
the frame in the transmitter slot; clients and the tally engine are kept. In any other state the assertion
changes the input alone. Choices of the model in it: log entries 9, 10. (From R20, R61, R119, R136, R152,
R166.) -/
def Obligations.HoldEntryStopsTheCarriage : Prop :=
  (∀ s : State, s.op ≠ .running →
    exec .holdEntry s = .next { s with ctl := { s.ctl with holdInput := true } }) ∧
  (∀ s : State, s.op = .running →
    ∃ t, exec .holdEntry s = .next t ∧
      t.ctl = { s.ctl with
        op := .hold, holdInput := true, longMark := false, settleWindow := none
        holdTimer := some (s.now + Config.secTicks s.cfg.holdLimitS) } ∧
      Raised s t Alert.HOLD_CHANGE ∧ Counted s t Ctr.HOLD_ENTRIES ∧
      t.sched = { s.sched with credit := 0, aeff := 0 } ∧
      Counted s t Ctr.SCHED_CREDIT_FORFEIT s.sched.credit.toNat ∧
      (∀ p, (t.seat p).state = .held ∧ (t.seat p).reading = 0 ∧ (t.seat p).bad = 0 ∧
        (t.seat p).unadmitted = 0 ∧ (t.seat p).faultWindow = none ∧ (t.seat p).quietTimer = none ∧
        (t.seat p).refreshTimer = none ∧ (t.seat p).rxPause = none ∧ (t.seat p).pausing = false ∧
        (t.seat p).pendingPause = none ∧
        ((s.seat p).state = .up → (t.seat p).queue = [] ∧ (t.seat p).tx = .idle)) ∧
      (∀ r, (t.radio r).state = .held ∧ (t.radio r).liveness = none ∧ (t.radio r).tx = .idle ∧
        (t.radio r).queue = [] ∧ (t.radio r).drops = []) ∧
      (∀ i, t.client i = s.client i) ∧ t.tally = s.tally ∧ t.notices = s.notices ∧ t.claimSeq = s.claimSeq ∧
      t.now = s.now ∧ t.pending = s.pending ∧ t.raised = s.raised ∧
      (∀ x rec, s.line.slot = some x → x.content = .passenger rec → x.phase ≠ .sending →
        t.mem.uplinkFree = rec.frame.blocks ++ s.mem.uplinkFree ∧ Counted s t Ctr.LINE_HOLD_DISCARD ∧
        (s.line.line ≠ .idle → t.line = { s.line with slot := none, backoffTimer := none })) ∧
      ((∀ x rec, s.line.slot = some x → x.content = .passenger rec → x.phase = .sending) →
        t.line = s.line ∧ t.mem.uplinkFree = s.mem.uplinkFree))

/-- Hold exit: RUNNING, every HELD port SETTLING with its exit mark, every HELD link DOWN, the settle window
started. After a short Hold the clients are kept but for those on the radios, which have lost their
attachment. After a long one every entry is FREE, and each that was PROBATION, LOCAL or LEAVING is counted
and posts CLIENT_LEFT with reason hold, in ascending index, as the queue's room allows. (From R61, R69,
R137, R152, R167, R170.) -/
def Obligations.HoldExitReturnsToRunning : Prop :=
  (∀ s : State, s.op ≠ .hold →
    exec .holdExit s = .next { s with ctl := { s.ctl with holdInput := false } }) ∧
  (∀ s : State, s.op = .hold → (∀ p, (s.seat p).state = .held) → (∀ r, (s.radio r).state = .held) →
    ∃ t, exec .holdExit s = .next t ∧
      t.ctl = { s.ctl with
        op := .running, holdInput := false, holdTimer := none
        settleWindow := some (s.now + Config.settleTicks) } ∧
      Raised s t Alert.HOLD_CHANGE ∧
      (∀ p, t.seat p = { s.seat p with state := .settling, reading := 0, exitMark := true }) ∧
      (∀ r, t.radio r = { s.radio r with state := .down }) ∧
      t.line = s.line ∧ t.sched = s.sched ∧ t.tally = s.tally ∧ t.claimSeq = s.claimSeq ∧ t.now = s.now ∧
      t.pending = s.pending ∧ t.raised = s.raised ∧ t.scanTimer = s.scanTimer ∧ t.filter = s.filter ∧
      (s.ctl.longMark = false → ∀ i, t.client i =
        match (s.client i).attach with
        | .seat _ => s.client i
        | .radio _ => (s.client i).afterLoss s.now) ∧
      (s.ctl.longMark = true →
        let left : List Notice := ((List.finRange 256).filter (fun i =>
          (s.client i).state = .probation ∨ (s.client i).state = .localHeld ∨
            (s.client i).state = .leaving)).map (fun i =>
          .clientLeft i (s.client i).tenancy (s.client i).addr (s.client i).attach .hold)
        let room := 32 - s.notices.length
        t.notices = s.notices ++ left.take room ∧ Counted s t Ctr.CLIENT_LEFT_HOLD left.length ∧
        Counted s t Ctr.NOTICE_DROPPED (left.length - room) ∧
        (s.notices = [] → left ≠ [] → Raised s t Alert.NOTICE_PENDING) ∧
        (room < left.length → (t.alert Alert.NOTICE_OVERFLOW).pending = true) ∧
        ∀ i, t.client i =
          if (s.client i).state = .free then s.client i else (s.client i).afterFreeing))

/-- The hold timer's expiry in HOLD sets the long mark and counts HOLD_LONG, and nothing else changes. At the
expiry of the exit settle window each port still SETTLING with its exit mark set goes ABSENT and its
PROBATION and LOCAL clients lose their attachment; no other port and no other entry changes. Choices of the
model in it: log entries 2, 4, 11. (From R61, R63, R137, R166, R167.) -/
def Obligations.HoldTimersExpire : Prop :=
  (∀ (s : State) (d : Nat), s.op = .hold → s.ctl.holdTimer = some d →
    s.Timely .holdTimerExpiry d →
    exec .holdTimerExpiry s = .next { s.atTime .holdTimerExpiry d with
      ctl := { s.ctl with holdTimer := none, longMark := true }
      counters := s.counters.set Ctr.HOLD_LONG (satAdd s.counters[Ctr.HOLD_LONG] 1) }) ∧
  (∀ s : State, s.op ≠ .hold ∨ s.ctl.holdTimer = none →
    exec .holdTimerExpiry s = .next (s.without .holdTimerExpiry)) ∧
  (∀ s : State, s.ctl.settleWindow = none →
    exec .exitSettleWindowExpiry s = .next (s.without .exitSettleWindowExpiry)) ∧
  (∀ (s : State) (d : Nat), s.ctl.settleWindow = some d → s.Timely .exitSettleWindowExpiry d →
    ∃ t, exec .exitSettleWindowExpiry s = .next t ∧ t.ctl = { s.ctl with settleWindow := none } ∧
      t.now = max s.now d ∧ t.line = s.line ∧ t.sched = s.sched ∧ t.tally = s.tally ∧ t.radios = s.radios ∧
      t.claimSeq = s.claimSeq ∧ t.pending = s.pending ∧
      t.raised = s.raised.erase .exitSettleWindowExpiry ∧ t.scanTimer = s.scanTimer ∧
      (∀ p, t.seat p =
        if (s.seat p).state = .settling ∧ (s.seat p).exitMark = true then
          { s.seat p with state := .absent, reading := 0, exitMark := false }
        else s.seat p) ∧
      (∀ i, t.client i =
        match (s.client i).attach with
        | .seat p =>
          if (s.seat p).state = .settling ∧ (s.seat p).exitMark = true then
            (s.client i).afterLoss (max s.now d)
          else s.client i
        | .radio _ => s.client i))

/-! ## The carriage line -/

/-- A rise of carrier present takes any line state to BUSY, stops the gap timer and starts the stuck-line timer;
a fall takes BUSY to GAP with the gap timer started and stops the stuck-line timer. In reset only the input
is kept, and a fall while the part itself drives the line leaves carrier present (log entry 5). The expiry
of the stuck-line timer counts one episode and raises LINE_STUCK, and the timer stays stopped: nothing else
changes, whatever waits to be sent. Choices of the model in it: log entries 2, 4, 5. (From R8, R9.) -/
def Obligations.CarrierEdgesAndTheStuckLine : Prop :=
  (∀ s : State,
      (s.op ≠ .inReset → exec .carrierRise s = .next { s with line := { s.line with
        carrier := true, line := .busy, gapTimer := none
        stuckTimer := some (s.now + Config.stuckTicks) } }) ∧
      (s.op ≠ .inReset → s.line.driving = false → s.line.line = .busy →
        exec .carrierFall s = .next { s with line := { s.line with
          carrier := false, line := .gap, gapTimer := some (s.now + Config.gapTicks), stuckTimer := none } }) ∧
      (s.op ≠ .inReset → s.line.driving = false → s.line.line ≠ .busy →
        exec .carrierFall s = .next { s with line := { s.line with carrier := false, stuckTimer := none } }) ∧
      (s.op = .inReset → exec .carrierRise s = .next { s with line := { s.line with carrier := true } }) ∧
      (s.op = .inReset ∨ s.line.driving = true →
        exec .carrierFall s = .next { s with line := { s.line with carrier := false } })) ∧
  (∀ s : State, s.line.stuckTimer = none →
    exec .stuckLineTimerExpiry s = .next (s.without .stuckLineTimerExpiry)) ∧
  (∀ (s : State) (d : Nat), s.line.stuckTimer = some d → s.Timely .stuckLineTimerExpiry d →
    exec .stuckLineTimerExpiry s = .next { s.atTime .stuckLineTimerExpiry d with
      line := { s.line with stuckTimer := none }
      counters := s.counters.set Ctr.LINE_STUCK_EPISODES (satAdd s.counters[Ctr.LINE_STUCK_EPISODES] 1)
      alerts := s.alerts.set Alert.LINE_STUCK (s.alert Alert.LINE_STUCK).raised })

/-- The expiry of the gap timer takes the line to IDLE. A DEFER frame starts its next attempt; an EMPTY
transmitter in RUNNING or HOLD takes the oldest control record, with its send sequence, and starts it on the
line; with no record waiting it asks the scheduler; and a frame in SENDING or BACKOFF stays. With credit the
scheduler hands over the head frame of the entry that eligibility, the quota phase before the spill phase,
the class priorities and the round robin choose, and charges it; a LEAVING entry that this empties goes
FREE. Without credit, or with no entry eligible, nothing is handed over. Choices of the model in it: log
entries 2, 5. (From R8, R10, R11, R16, R63, R110, R111, R112, R113, R114.) -/
def Obligations.GapExpiryOffersTheLine : Prop :=
  ∀ (s : State) (d : Nat), s.line.gapTimer = some d → s.Timely .gapTimerExpiry d →
    (∀ x, s.line.slot = some x → x.phase = .defer →
      exec .gapTimerExpiry s = .next { s.atTime .gapTimerExpiry d with line := { s.line with
        line := .busy, gapTimer := none, stuckTimer := some (max s.now d + Config.stuckTicks)
        slot := some { x with phase := .sending } } }) ∧
    (∀ x, s.line.slot = some x → x.phase ≠ .defer →
      exec .gapTimerExpiry s = .next { s.atTime .gapTimerExpiry d with
          line := { s.line with line := .idle, gapTimer := none } }) ∧
    (s.line.slot = none → s.active = false →
      exec .gapTimerExpiry s = .next { s.atTime .gapTimerExpiry d with
          line := { s.line with line := .idle, gapTimer := none } }) ∧
    (∀ r rest, s.line.slot = none → s.active = true → s.line.queue = r :: rest →
      ∃ t, exec .gapTimerExpiry s = .next t ∧ t = { s.atTime .gapTimerExpiry d with line := t.line } ∧
        t.line.queue = rest ∧ t.line.line = .busy ∧ t.line.gapTimer = none ∧
        t.line.stuckTimer = some (max s.now d + Config.stuckTicks) ∧
        t.line.slot = some { phase := .sending, content := .control r
                             seq := s.line.seqOf (Content.control r).kind, attempts := 0 } ∧
        (∀ k, t.line.seqOf k =
          if k = (Content.control r).kind then s.line.seqOf k + 1 else s.line.seqOf k)) ∧
    (∀ i ph rec rest, s.line.slot = none → s.active = true → s.line.queue = [] → 0 < s.sched.credit →
      s.Served ph i → (s.client i).queue = rec :: rest →
      ∃ t, exec .gapTimerExpiry s = .next t ∧ t.now = max s.now d ∧ t.ctl = s.ctl ∧
        Handover s t ph i rec rest ∧
        (∀ p, (s.client i).attach ≠ .seat p → t.seat p = s.seat p)) ∧
    (s.line.slot = none → s.active = true → s.line.queue = [] →
      s.sched.credit ≤ 0 ∨ (∀ i, ¬ s.Candidate .spill i) →
      ∃ t, exec .gapTimerExpiry s = .next t ∧
        t = { s.atTime .gapTimerExpiry d with
          line := { s.line with line := .idle, gapTimer := none }, counters := t.counters } ∧
        (∀ c, c ≠ Ctr.SCHED_NO_CREDIT → t.counters[c] = s.counters[c]) ∧
        ((∀ i, ¬ s.Candidate .spill i) → Counted s t Ctr.SCHED_NO_CREDIT 0) ∧
        ((∃ i, s.Candidate .spill i) → Counted s t Ctr.SCHED_NO_CREDIT))

/-- A collision outside SENDING changes nothing. During SENDING, outside Hold or with a control record, at an
attempt count below 11, the frame goes to BACKOFF with its count raised and a backoff of k slots, k below
2^m with m the count or 8; k is the model's free value (log entry 3). Where k is 0 the backoff timer's
expiry waits at the front of the queue, and the next step takes the frame to DEFER. The collision that takes
the attempt count to 12, and in Hold any collision of a passenger frame, discards the frame: a passenger
frame's blocks return to the UPLINK pool. That in Hold the 12th collision too counts as Hold's discard alone
is the model's choice (log entry 32). So is that Hold is judged at the collision, so that after Hold exit
the frame backs off again (log entry 34). Choices of the model in it: log entries 3, 5, 9, 27, 32, 34. (From
R14, R15, R16, R20, R115.) -/
def Obligations.CollisionBacksOffOrDiscards : Prop :=
  (∀ s : State, s.line.driving = false → exec .collision s = .next s) ∧
  (∀ (s : State) (x : Slot), s.line.slot = some x → x.phase = .sending → x.attempts < 11 →
    (s.op ≠ .hold ∨ ∀ rec, x.content ≠ .passenger rec) →
    ∃ t k, exec .collision s = .next t ∧ k < 2 ^ min (x.attempts + 1) 8 ∧
      t = { s with
        line := t.line, draws := s.draws + 1
        counters := s.counters.set Ctr.LINE_TX_COLLISIONS (satAdd s.counters[Ctr.LINE_TX_COLLISIONS] 1)
        pending := if k = 0 then .backoffTimerExpiry :: s.pending else s.pending
        raised := if k = 0 then .backoffTimerExpiry :: s.raised else s.raised } ∧
      t.line.slot = some { x with phase := .backoff, attempts := x.attempts + 1 } ∧
      t.line.backoffTimer = some (s.now + k * Config.slotTicks) ∧ t.line.queue = s.line.queue ∧
      (∀ kind, t.line.seqOf kind = s.line.seqOf kind) ∧
      (s.line.line = .busy → s.line.carrier = false → t.line.line = .gap) ∧
      (s.line.carrier = true → t.line.line = s.line.line) ∧
      (k = 0 → t.line.line ≠ .idle →
        step t = .next { t with
          pending := s.pending, raised := s.raised
          line := { t.line with
            backoffTimer := none, slot := some { x with phase := .defer, attempts := x.attempts + 1 } } })) ∧
  (∀ (s : State) (x : Slot), s.line.slot = some x → x.phase = .sending → s.line.line = .busy →
      (∀ rec, x.content = .passenger rec → s.op ≠ .hold → 11 ≤ x.attempts →
        ∃ t, exec .collision s = .next t ∧ t.line.slot = none ∧ t.line.backoffTimer = none ∧
          t.mem = { s.mem with uplinkFree := rec.frame.blocks ++ s.mem.uplinkFree } ∧
          Counted s t Ctr.LINE_TX_COLLISIONS ∧ Counted s t Ctr.LINE_TX_DISCARDED ∧
          Raised s t Alert.LINE_EXCESS_COLLISIONS ∧ t.sched = s.sched ∧ t.clients = s.clients ∧
          t.line.queue = s.line.queue ∧ t.outer = s.outer) ∧
      (∀ rec, x.content = .passenger rec → s.op = .hold →
        ∃ t, exec .collision s = .next t ∧ t.line.slot = none ∧
          t.mem = { s.mem with uplinkFree := rec.frame.blocks ++ s.mem.uplinkFree } ∧
          Counted s t Ctr.LINE_TX_COLLISIONS ∧ Counted s t Ctr.LINE_HOLD_DISCARD ∧ t.draws = s.draws ∧
          t.alerts = s.alerts ∧ t.sched = s.sched ∧ t.clients = s.clients ∧ t.outer = s.outer) ∧
      (∀ r, x.content = .control r → 11 ≤ x.attempts →
        ∃ t, exec .collision s = .next t ∧ t.line.slot = none ∧ t.mem = s.mem ∧ t.alerts = s.alerts ∧
          Counted s t Ctr.LINE_TX_COLLISIONS ∧ Counted s t Ctr.LINE_CONTROL_LOST ∧
          Counted s t Ctr.LINE_TALLY_MISSED (if r.isTally = true then 1 else 0) ∧
          t.line.queue = s.line.queue ∧ t.clients = s.clients ∧ t.outer = s.outer))

/-- The completion of an attempt empties the slot, counts it, returns a passenger frame's blocks to the UPLINK
pool and, with no other station's carrier held (log entry 5), takes the line to GAP with the fall of the
part's own carrier. A collision indication that comes after it finds the transmitter outside SENDING and has
no effect. Choices of the model in it: log entries 5, 9. (From R8, R12.) -/
def Obligations.CompletionEmptiesTheSlot : Prop :=
  ∀ (s : State) (x : Slot), s.line.slot = some x → x.phase = .sending → s.line.line = .busy →
    ∃ t, exec .attemptCompletion s = .next t ∧
      t = { s with line := t.line, counters := t.counters
                   mem := { s.mem with uplinkFree := t.mem.uplinkFree } } ∧
      t.mem.uplinkFree.Perm (x.content.uplinkBlocks ++ s.mem.uplinkFree) ∧
      Counted s t Ctr.LINE_TX_PASSENGER (if x.content.kind = .passenger then 1 else 0) ∧
      Counted s t Ctr.LINE_TX_CONTROL (if x.content.kind = .passenger then 0 else 1) ∧
      t.line.slot = none ∧ t.line.queue = s.line.queue ∧
      (∀ k, t.line.seqOf k = s.line.seqOf k) ∧
      (s.line.carrier = false → t.line.line = .gap ∧ t.line.gapTimer = some (s.now + Config.gapTicks) ∧
        t.line.stuckTimer = none) ∧
      exec .collision t = .next t

/-- The expiry of the backoff timer in BACKOFF starts the next attempt of the same frame when the line is IDLE,
and otherwise takes the transmitter to DEFER. Choices of the model in it: log entries 2, 4. (From R16.) -/
def Obligations.BackoffExpiryRetriesOrDefers : Prop :=
  (∀ s : State, s.line.backoffTimer = none →
    exec .backoffTimerExpiry s = .next (s.without .backoffTimerExpiry)) ∧
  (∀ (s : State) (d : Nat) (x : Slot), s.line.backoffTimer = some d → s.line.slot = some x →
    x.phase = .backoff → s.Timely .backoffTimerExpiry d →
    (s.line.line = .idle →
      exec .backoffTimerExpiry s = .next { s.atTime .backoffTimerExpiry d with line := { s.line with
        line := .busy, gapTimer := none, stuckTimer := some (max s.now d + Config.stuckTicks)
        backoffTimer := none, slot := some { x with phase := .sending } } }) ∧
    (s.line.line ≠ .idle →
      exec .backoffTimerExpiry s = .next { s.atTime .backoffTimerExpiry d with line := { s.line with
        backoffTimer := none, slot := some { x with phase := .defer } } }))

/-- The transmitter starts a frame only on a line it has found IDLE: a command that finds the part not driving
the line and leaves it driving either finds the line IDLE, or is the gap expiry that makes it so. (From R8,
R10, R16.) -/
def Obligations.SendingStartsOnAnIdleLine : Prop :=
  ∀ (s t : State) (c : Instr), exec c s = .next t → s.line.driving = false → t.line.driving = true →
    s.line.line = .idle ∨ c = .gapTimerExpiry

/-! ## Line frames -/

/-- The frames the part sends are read back by every other station that forms them as it does: the bytes of a
full slot pass every check of an arrival and give the header and the body they were made from. Choices of
the model in it: log entry 29. (From R1, R2, R4, R5, R6, R7.) -/
def Obligations.SentFramesAreReadBack : Prop :=
  ∀ (cfg : Settings) (own : Nat) (x : Slot), 1 ≤ cfg.station → cfg.station ≤ 4094 → own ≠ cfg.station →
    cfg.gateway ≤ 4094 →
    let h (kind dest cls len : Nat) : Header :=
      { kind := kind, dest := dest, origin := cfg.station, cls := cls, seq := x.seq, bodyLen := len }
    (∀ rec, x.content = .passenger rec → 64 ≤ rec.frame.data.length → rec.frame.data.length ≤ 1522 →
      classifyLine (some own) (x.bytes cfg) =
        .good (h 1 cfg.gateway rec.cls.num.val rec.frame.data.length) (.passenger rec.frame.data)) ∧
    (∀ d w a p hold conflict n, x.content = .control (.tally d w a p hold conflict n) →
      d ≤ 65535 → w ≤ 3840 → a ≤ 65535 → 10 ≤ p → p ≤ 200 → n ≤ 256 →
      classifyLine (some own) (x.bytes cfg) = .good (h 2 4095 0 12)
        (.tally { d := d, w := w, a := a, period := p, hold := hold, conflict := conflict, clients := n })) ∧
    (∀ a n k, x.content = .control (.claim a n k) → isGroupAddr a = false →
      classifyLine (some own) (x.bytes cfg) = .good (h 3 4095 0 8) (.claim a n)) ∧
    (∀ a n d st, x.content = .control (.release a n d st) → isGroupAddr a = false → d ≤ 65535 → st ≤ 4094 →
      classifyLine (some own) (x.bytes cfg) = .good (h 4 st 0 10) (.release a n d))

/-- The checks of an arrival in RUNNING and HOLD, in their order, each counted where it fails; the last is the
length of the body and the fields of it that its kind bounds. An origin equal to the own station number is a
conflict report, and the receiver is blind while the part sends. Choices of the model in it: log entries 22,
29. (From R2, R3, R4, R5, R6, R7, R36, R39.) -/
def Obligations.ArrivalChecksDiscardInOrder : Prop :=
  ∀ (s : State) (bytes : List Byte), bytes ≠ [] →
    let counted (s : State) (c : Counter) : State :=
      { s with counters := s.counters.set c (satAdd s.counters[c] 1) }
    let b (k : Nat) : Nat := (bytes.getD k 0).toNat
    let len := b 5 % 8 * 256 + b 6
    let origin := b 2 * 16 + b 3 / 16
    let kind := b 0 / 16
    let body (k : Nat) : Nat := b (8 + 2 * k) * 256 + b (9 + 2 * k)
    let bodyPasses := kind = 1 ∧ 64 ≤ len ∧ len ≤ 1522 ∨
      kind = 2 ∧ len = 12 ∧ body 1 ≤ 3840 ∧ 10 ≤ body 3 ∧ body 3 ≤ 200 ∧ body 5 ≤ 256 ∨
      kind = 3 ∧ len = 8 ∧ b 15 ≤ 3 ∧ b 8 % 2 = 0 ∨
      kind = 4 ∧ len = 10 ∧ b 8 % 2 = 0
    (s.line.driving = true → exec (.lineFrameArrival bytes) s = .next s) ∧
    (s.op = .inReset ∨ s.op = .starting ∨ s.op = .loading → exec (.lineFrameArrival bytes) s = .next s) ∧
    (s.line.driving = false → (s.active = true ∨ s.op = .unconfigured) →
      (bytes.length < 12 → exec (.lineFrameArrival bytes) s = .next (counted s Ctr.LINE_RX_FRAGMENT)) ∧
      (12 ≤ bytes.length → checkPasses bytes = false →
        exec (.lineFrameArrival bytes) s = .next (counted s Ctr.LINE_RX_BAD_CHECK)) ∧
      (12 ≤ bytes.length → checkPasses bytes = true → len ≠ bytes.length - 12 →
        exec (.lineFrameArrival bytes) s = .next (counted s Ctr.LINE_RX_BAD_LENGTH)) ∧
      (12 ≤ bytes.length → checkPasses bytes = true → len = bytes.length - 12 → origin = 0 ∨ origin = 4095 →
        exec (.lineFrameArrival bytes) s =
          .next (counted (counted s Ctr.LINE_RX_FRAMES) Ctr.LINE_RX_BAD_ORIGIN))) ∧
    (s.line.driving = false → 12 ≤ bytes.length → checkPasses bytes = true → len = bytes.length - 12 →
      origin ≠ 0 → origin ≠ 4095 →
      (s.op = .unconfigured → exec (.lineFrameArrival bytes) s = .next (counted s Ctr.LINE_RX_FRAMES)) ∧
      (s.active = true → origin = s.cfg.station →
        ∃ t, exec (.lineFrameArrival bytes) s = .next t ∧
          t = { s with counters := t.counters, alerts := t.alerts
                       tally := { s.tally with conflict := .conflict, reportMark := true, clean := 0 } } ∧
          t.alerts = s.alerts.set Alert.STATION_CONFLICT (s.alert Alert.STATION_CONFLICT).raised ∧
          Counted s t Ctr.LINE_RX_OWN_ORIGIN ∧
          Counted s t Ctr.CONFLICT_ENTRIES (if s.tally.conflict = .normal then 1 else 0)) ∧
      (s.active = true → origin ≠ s.cfg.station → (kind = 0 ∨ 5 ≤ kind) →
        exec (.lineFrameArrival bytes) s =
          .next (counted (counted s Ctr.LINE_RX_FRAMES) Ctr.LINE_RX_BAD_KIND)) ∧
      (s.active = true → origin ≠ s.cfg.station → 1 ≤ kind → kind ≤ 4 → ¬ bodyPasses →
        exec (.lineFrameArrival bytes) s =
          .next (counted (counted s Ctr.LINE_RX_FRAMES) Ctr.LINE_RX_BAD_BODY)) ∧
      (s.active = true → origin ≠ s.cfg.station → bodyPasses →
        ∃ t, exec (.lineFrameArrival bytes) s = .next t ∧ Counted s t Ctr.LINE_RX_FRAMES ∧
          Counted s t Ctr.LINE_RX_BAD_BODY 0))

/-- A TALLY from a station in the peer table: a repeat of the last sequence changes nothing but counters; any
other replaces the entry's fields, restarts its expiry and adds the sequence values skipped. An expiry of
the entry that then still waits does not happen. Choices of the model in it: log entry 2. (From R25, R26.) -/
def Obligations.TallyFromAKnownPeer : Prop :=
  ∀ (s : State) (bytes : List Byte) (h : Header) (b : TallyBody) (e : Peer),
    s.Receives bytes h (.tally b) → h.origin ≠ s.cfg.gateway → (h.dest = s.cfg.station ∨ h.dest = 4095) →
    s.tally.peers.find? (·.station == h.origin) = some e →
    ∃ t, exec (.lineFrameArrival bytes) s = .next t ∧ Counted s t Ctr.LINE_RX_FRAMES ∧
      t = { s with tally := t.tally, counters := t.counters } ∧
      (h.seq = e.lastSeq → t.tally = s.tally ∧ Counted s t Ctr.TALLY_RX_REPEAT) ∧
      (h.seq ≠ e.lastSeq → Counted s t Ctr.TALLY_RX_ACCEPTED ∧
        t.tally = { s.tally with peers := s.tally.peers.map (fun q =>
          if q.station = e.station then
            peerOf e.station h.seq b s.now
              (min 65535 (e.lost + (h.seq.toNat + 512 - e.lastSeq.toNat - 1) % 256))
          else q) } ∧
        (.peerExpiry h.origin ∈ s.raised →
          exec (.peerExpiry h.origin) t = .next (t.without (.peerExpiry h.origin))))

/-- A TALLY from a station not in the peer table: with room it becomes an entry in its place in the ascending
order, raises PEER_CHANGE and posts PEER_JOINED; while the table holds 31 entries it is refused. The expiry
of a peer entry's timer removes the entry, raises PEER_CHANGE and posts PEER_EXPIRED. An expiry that a TALLY
taken before it has overtaken does not happen, and for a station not in the table it changes nothing (log
entry 4). Choices of the model in it: log entries 2, 4. (From R24, R25, R27, R28, R29, R170.) -/
def Obligations.PeersJoinAndExpire : Prop :=
  (∀ (s : State) (bytes : List Byte) (h : Header) (b : TallyBody),
      s.Receives bytes h (.tally b) → h.origin ≠ s.cfg.gateway → (h.dest = s.cfg.station ∨ h.dest = 4095) →
      s.tally.peers.find? (·.station == h.origin) = none → s.tally.peers.length < 31 →
      s.tally.peers.Pairwise (fun p q => p.station < q.station) →
      ∃ t, exec (.lineFrameArrival bytes) s = .next t ∧
        t = { s with tally := { s.tally with peers := t.tally.peers }
                     counters := t.counters, alerts := t.alerts, notices := t.notices } ∧
        t.tally.peers.Perm (peerOf h.origin h.seq b s.now 0 :: s.tally.peers) ∧
        t.tally.peers.Pairwise (fun p q => p.station < q.station) ∧
        Counted s t Ctr.LINE_RX_FRAMES ∧ Counted s t Ctr.TALLY_RX_ACCEPTED ∧ Counted s t Ctr.TALLY_PEER_JOINS ∧
        Raised s t Alert.PEER_CHANGE ∧ Posted s t (.peerJoined h.origin)) ∧
  (∀ (s : State) (bytes : List Byte) (h : Header) (b : TallyBody),
      s.Receives bytes h (.tally b) → h.origin ≠ s.cfg.gateway → (h.dest = s.cfg.station ∨ h.dest = 4095) →
      s.tally.peers.find? (·.station == h.origin) = none → s.tally.peers.length = 31 →
      ∃ t, exec (.lineFrameArrival bytes) s = .next t ∧
        t = { s with counters := t.counters, alerts := t.alerts } ∧
        Counted s t Ctr.LINE_RX_FRAMES ∧ Counted s t Ctr.TALLY_RX_NO_ROOM ∧
        t.alerts = s.alerts.set Alert.PEER_TABLE_FULL (s.alert Alert.PEER_TABLE_FULL).raised) ∧
  (∀ (s : State) (n : Nat), (∀ q ∈ s.tally.peers, q.station ≠ n) →
    exec (.peerExpiry n) s = .next (s.without (.peerExpiry n))) ∧
  (∀ (s : State) (n : Nat) (q : Peer), s.tally.peers.find? (·.station == n) = some q →
    .peerExpiry n ∈ s.raised → s.now < q.due →
    exec (.peerExpiry n) s = .next (s.without (.peerExpiry n))) ∧
  (∀ (s : State) (n : Nat) (q : Peer), s.tally.peers.find? (·.station == n) = some q →
    s.Timely (.peerExpiry n) q.due →
    ∃ t, exec (.peerExpiry n) s = .next t ∧
      t = { s.atTime (.peerExpiry n) q.due with
        tally := { s.tally with peers := s.tally.peers.filter (fun e => e.station != n) }
        counters := t.counters, alerts := t.alerts, notices := t.notices } ∧
      Counted s t Ctr.TALLY_PEER_EXPIRIES ∧ Raised s t Alert.PEER_CHANGE ∧ Posted s t (.peerExpired n))

/-- A CLAIM for an entry in LOCAL or LEAVING, or in PROBATION from a higher station, gives the entry up: it goes
MOVED with its queue freed and its tombstone started, and a RELEASE is posted to the claimant. Choices of
the model in it: log entry 9. (From R51, R73, R75, R76, R18.) -/
def Obligations.ClaimGivesTheEntryUp : Prop :=
  ∀ (s : State) (bytes : List Byte) (h : Header) (a : Addr) (num : BitVec 8) (i : Fin 256),
    s.Receives bytes h (.claim a num) → (h.dest = s.cfg.station ∨ h.dest = 4095) → s.lookup a = some i →
    ((s.client i).state = .localHeld ∨ (s.client i).state = .leaving ∨
      (s.client i).state = .probation ∧ s.cfg.station < h.origin) →
    ∃ t, exec (.lineFrameArrival bytes) s = .next t ∧ t.outer = s.outer ∧
      t.client i = { s.client i with
        state := .moved, queue := [], quota := 0, used := 0, charged := false
        timer := some (s.now + Config.secTicks s.cfg.tombstoneS) } ∧
      OtherClients s t i ∧ t.tally = s.tally ∧ t.sched = s.sched ∧ t.radios = s.radios ∧
      t.claimSeq = s.claimSeq ∧
      Offered s t (.release (s.client i).addr num (s.client i).queue.length h.origin) ∧
      t.mem.uplinkFree = ((s.client i).queue.map (·.frame.blocks)).flatten ++ s.mem.uplinkFree ∧
      Posted s t (.clientMovedAway i (s.client i).tenancy (s.client i).addr (s.client i).attach h.origin) ∧
      Counted s t Ctr.CLAIM_RX ∧ Counted s t Ctr.CLAIM_GIVEN_UP ∧ Counted s t Ctr.RELEASE_POSTED ∧
      Counted s t Ctr.CLIENT_QUEUE_DISCARD (s.client i).queue.length

/-- A CLAIM for an entry in PROBATION from a lower station is answered with a counter-claim, unless a CLAIM for
the address waits in the control queue; one that finds no entry or an entry in MOVED is ignored. (Formalises
R77, R78.) -/
def Obligations.ClaimIsCounteredOrIgnored : Prop :=
  ∀ (s : State) (bytes : List Byte) (h : Header) (a : Addr) (num : BitVec 8),
    s.Receives bytes h (.claim a num) → (h.dest = s.cfg.station ∨ h.dest = 4095) →
    ((s.lookup a = none ∨ ∃ i, s.lookup a = some i ∧ (s.client i).state = .moved) →
      ∃ t, exec (.lineFrameArrival bytes) s = .next t ∧ t = { s with counters := t.counters } ∧
        Counted s t Ctr.CLAIM_RX ∧ Counted s t Ctr.CLAIM_RX_IGNORED) ∧
    (∀ i, s.lookup a = some i → (s.client i).state = .probation → h.origin < s.cfg.station →
      ((∃ r ∈ s.line.queue, ∃ n k, r = .claim a n k) →
        ∃ t, exec (.lineFrameArrival bytes) s = .next t ∧ t = { s with counters := t.counters } ∧
          Counted s t Ctr.CLAIM_RX ∧ Counted s t Ctr.CLAIM_COUNTER_SUPPRESSED) ∧
      ((∀ r ∈ s.line.queue, ∀ n k, r ≠ .claim a n k) →
        ∃ t, exec (.lineFrameArrival bytes) s = .next t ∧
          t = { s with line := t.line, counters := t.counters, claimSeq := s.claimSeq + 1
                       clients := s.clients.set i { s.client i with claimNum := s.claimSeq + 1 } } ∧
          Offered s t (.claim a (s.claimSeq + 1) (s.client i).cls) ∧
          Counted s t Ctr.CLAIM_RX ∧ Counted s t Ctr.CLAIM_COUNTER ∧ Counted s t Ctr.CLAIM_POSTED))

/-- A RELEASE for another destination changes nothing and counts nothing beyond LINE_RX_FRAMES. One for this
station that names the claim number of an entry in PROBATION makes it LOCAL; any other is ignored. (From R7,
R80.) -/
def Obligations.ReleaseMatchesAClaim : Prop :=
  ∀ (s : State) (bytes : List Byte) (h : Header) (a : Addr) (num : BitVec 8) (d : Nat),
    s.Receives bytes h (.release a num d) →
    (h.dest ≠ s.cfg.station →
      ∃ t, exec (.lineFrameArrival bytes) s = .next t ∧ t = { s with counters := t.counters } ∧
        ∀ c, c ≠ Ctr.LINE_RX_FRAMES → t.counters[c] = s.counters[c]) ∧
    (∀ i, h.dest = s.cfg.station → s.lookup a = some i → (s.client i).state = .probation →
      (s.client i).claimNum = num →
      ∃ t, exec (.lineFrameArrival bytes) s = .next t ∧
        t = { s with counters := t.counters
                     clients := s.clients.set i { s.client i with
                       state := .localHeld, timer := none, heardAt := s.runNow } } ∧
        Counted s t Ctr.RELEASE_RX_MATCHED ∧ Counted s t Ctr.RELEASE_PEER_DISCARDS d) ∧
    (h.dest = s.cfg.station →
      (∀ i, s.lookup a = some i → (s.client i).state = .probation → (s.client i).claimNum ≠ num) →
      ∃ t, exec (.lineFrameArrival bytes) s = .next t ∧ t = { s with counters := t.counters } ∧
        Counted s t Ctr.RELEASE_RX_IGNORED ∧ Counted s t Ctr.RELEASE_PEER_DISCARDS 0)

/-! ## Downlink delivery -/

/-- A PASSENGER frame that is not from the gateway, or not for this station or all, changes nothing; a unicast
frame that finds no entry, an entry that is LEAVING or MOVED, or an attachment that is not UP is dropped and
counted once. (From R4, R70, R154, R157.) -/
def Obligations.UnicastDropsAreCounted : Prop :=
  ∀ (s : State) (bytes : List Byte) (h : Header) (data : List Byte), s.Receives bytes h (.passenger data) →
    ∃ t, exec (.lineFrameArrival bytes) s = .next t ∧ Counted s t Ctr.LINE_RX_FRAMES ∧
      (h.origin ≠ s.cfg.gateway ∨ h.dest ≠ s.cfg.station ∧ h.dest ≠ 4095 →
        t = { s with counters := t.counters } ∧
          ∀ c, c ≠ Ctr.LINE_RX_FRAMES → t.counters[c] = s.counters[c]) ∧
      (h.origin = s.cfg.gateway → (h.dest = s.cfg.station ∨ h.dest = 4095) →
        (addrAt data 0).getLsbD 40 = false → Counted s t Ctr.DOWN_RX_UNICAST ∧
        (s.lookup (addrAt data 0) = none →
          t = { s with counters := t.counters } ∧ Counted s t Ctr.DOWN_FILTERED) ∧
        (∀ i, s.lookup (addrAt data 0) = some i →
          (((s.client i).state = .leaving ∨ (s.client i).state = .moved) →
            t = { s with counters := t.counters } ∧ Counted s t Ctr.DOWN_GONE) ∧
          (((s.client i).state = .probation ∨ (s.client i).state = .localHeld) →
            (∀ p, (s.client i).attach = .seat p → (s.seat p).state ≠ .up →
              t = { s with counters := t.counters } ∧ Counted s t Ctr.DOWN_ATTACH_NOT_UP) ∧
            (∀ r, (s.client i).attach = .radio r → (s.radio r).state ≠ .up →
              t = { s with counters := t.counters } ∧ Counted s t Ctr.DOWN_ATTACH_NOT_UP))))

/-- A unicast frame for a client on a seat port in UP: refused at the egress limit, refused at the pool, or
stored with the destination as it stands and placed at the tail; an idle port with nothing else to send
begins to deliver it. Choices of the model in it: log entry 9. (From R93, R96, R132, R133, R158.) -/
def Obligations.UnicastIsQueuedToASeat : Prop :=
  ∀ (s : State) (bytes : List Byte) (h : Header) (data : List Byte) (i : Fin 256) (p : Fin 32),
    s.Receives bytes h (.passenger data) → h.origin = s.cfg.gateway →
    (h.dest = s.cfg.station ∨ h.dest = 4095) → (addrAt data 0).getLsbD 40 = false →
    s.lookup (addrAt data 0) = some i → ((s.client i).state = .probation ∨ (s.client i).state = .localHeld) →
    (s.client i).attach = .seat p → (s.seat p).state = .up →
    let b := (data.length + 127) / 128
    let pos : EgressPos := .unicast
      { frame := { blocks := s.mem.downlinkFree.take b, data := data }, cls := (s.client i).cls, dest := i
        tenancy := (s.client i).tenancy, attach := .seat p }
    ∃ t, exec (.lineFrameArrival bytes) s = .next t ∧
      (s.cfg.seatEgressLimit < queueBlocks (s.seat p).queue + b →
        t = { s with counters := t.counters } ∧ Counted s t Ctr.SEAT_EGRESS_FULL) ∧
      (queueBlocks (s.seat p).queue + b ≤ s.cfg.seatEgressLimit → s.mem.downlinkFree.length < b →
        t = { s with counters := t.counters } ∧ Counted s t Ctr.POOL_DOWNLINK_SHORT) ∧
      (queueBlocks (s.seat p).queue + b ≤ s.cfg.seatEgressLimit → b ≤ s.mem.downlinkFree.length →
        Counted s t Ctr.DOWN_QUEUED ∧ OtherSeats s t p ∧
        t = { s with seats := t.seats, counters := t.counters, mem := t.mem } ∧
        t.mem.uplinkFree = s.mem.uplinkFree ∧
        ((s.seat p).tx ≠ .idle → t.seat p = { s.seat p with queue := (s.seat p).queue ++ [pos] } ∧
          t.mem = { s.mem with downlinkFree := s.mem.downlinkFree.drop b }) ∧
        ((s.seat p).tx = .idle → (s.seat p).queue = [] → (s.seat p).link = true →
          (s.seat p).pendingPause = none → (s.seat p).rxPause = none →
          t.seat p = { s.seat p with queue := [pos], tx := .delivering } ∧
          t.mem = { s.mem with downlinkFree := s.mem.downlinkFree.drop b }))

/-- A unicast frame for a client on a radio in UP: dropped for an OPEN client of a saturated radio, refused at
the egress limit, refused at the pool, or stored and placed at the tail; an idle link with credit and
nothing else to send begins to send it. Choices of the model in it: log entry 9. (From R93, R96, R144, R147,
R148, R149, R158.) -/
def Obligations.UnicastIsQueuedToARadio : Prop :=
  ∀ (s : State) (bytes : List Byte) (h : Header) (data : List Byte) (i : Fin 256) (r : Fin 6),
    s.Receives bytes h (.passenger data) → h.origin = s.cfg.gateway →
    (h.dest = s.cfg.station ∨ h.dest = 4095) → (addrAt data 0).getLsbD 40 = false →
    s.lookup (addrAt data 0) = some i → ((s.client i).state = .probation ∨ (s.client i).state = .localHeld) →
    (s.client i).attach = .radio r → (s.radio r).state = .up →
    let b := (data.length + 127) / 128
    let degraded := 12 ≤ (s.radio r).load ∧ (s.client i).cls = .openNet
    let pos : EgressPos := .unicast
      { frame := { blocks := s.mem.downlinkFree.take b, data := data }, cls := (s.client i).cls, dest := i
        tenancy := (s.client i).tenancy, attach := .radio r }
    ∃ t, exec (.lineFrameArrival bytes) s = .next t ∧
      (degraded → t = { s with counters := t.counters } ∧ Counted s t Ctr.DOWN_DEGRADE) ∧
      (¬ degraded → s.cfg.radioEgressLimit < queueBlocks (s.radio r).queue + b →
        t = { s with counters := t.counters } ∧ Counted s t Ctr.RADIO_EGRESS_FULL) ∧
      (¬ degraded → queueBlocks (s.radio r).queue + b ≤ s.cfg.radioEgressLimit →
        s.mem.downlinkFree.length < b →
        t = { s with counters := t.counters } ∧ Counted s t Ctr.POOL_DOWNLINK_SHORT) ∧
      (¬ degraded → queueBlocks (s.radio r).queue + b ≤ s.cfg.radioEgressLimit →
        b ≤ s.mem.downlinkFree.length →
        Counted s t Ctr.DOWN_QUEUED ∧ OtherRadios s t r ∧
        t = { s with radios := t.radios, counters := t.counters, mem := t.mem } ∧
        ((s.radio r).tx ≠ .idle → t.radio r = { s.radio r with queue := (s.radio r).queue ++ [pos] } ∧
          t.mem = { s.mem with downlinkFree := s.mem.downlinkFree.drop b }) ∧
        ((s.radio r).tx = .idle → (s.radio r).queue = [] → (s.radio r).drops = [] →
          0 < (s.radio r).credit →
          t.radio r = { s.radio r with queue := [pos], tx := .sendingData, sent := (s.radio r).sent + 1 } ∧
          t.mem = { s.mem with downlinkFree := s.mem.downlinkFree.drop b }))

/-- A group frame, its flag numbered by the exclusive-or of the six destination bytes: dropped where it is
clear; where it is set, refused whole at a short pool, freed at once where no queue accepts it, or stored
once and placed at the tail of each queue that accepts it, with the number of those queues as its reference
count. A port or link that is idle then begins to send: the head of its queue, if nothing goes before it and
the head passes its checks. Choices of the model in it: log entries 9, 26. (From R97, R100, R132, R133,
R147, R148, R154, R155, R156.) -/
def Obligations.GroupFrameIsStoredOnce : Prop :=
  ∀ (s : State) (bytes : List Byte) (h : Header) (data : List Byte),
    s.Receives bytes h (.passenger data) → h.origin = s.cfg.gateway →
    (h.dest = s.cfg.station ∨ h.dest = 4095) → (addrAt data 0).getLsbD 40 = true →
    let b := (data.length + 127) / 128
    let f : Frame := { blocks := s.mem.downlinkFree.take b, data := data }
    let byte (k : Nat) : Byte := data.getD k 0
    let flag := s.filter.getLsbD (byte 0 ^^^ byte 1 ^^^ byte 2 ^^^ byte 3 ^^^ byte 4 ^^^ byte 5).toNat
    let passes (queue : List EgressPos) : Prop := ∀ pos rest, queue = pos :: rest → s.stale pos = false
    let ports : List (Fin 32) := (List.finRange 32).filter (fun p => (s.seat p).state = .up ∧
      queueBlocks (s.seat p).queue + b ≤ s.cfg.seatEgressLimit)
    let links : List (Fin 6) := (List.finRange 6).filter (fun r => (s.radio r).state = .up ∧
      (s.radio r).load < 12 ∧ queueBlocks (s.radio r).queue + b ≤ s.cfg.radioEgressLimit)
    ∃ t, exec (.lineFrameArrival bytes) s = .next t ∧ Counted s t Ctr.DOWN_RX_GROUP ∧
      t = { s with seats := t.seats, radios := t.radios, mem := t.mem, counters := t.counters } ∧
      (flag = false → t = { s with counters := t.counters }) ∧
      (flag = true → s.mem.downlinkFree.length < b →
        t = { s with counters := t.counters } ∧ Counted s t Ctr.POOL_DOWNLINK_SHORT) ∧
      (flag = true → b ≤ s.mem.downlinkFree.length → ports = [] → links = [] →
        t = { s with counters := t.counters } ∧ Counted s t Ctr.POOL_GROUP_STORED ∧
        Counted s t Ctr.POOL_GROUP_UNPLACED) ∧
      (flag = true → b ≤ s.mem.downlinkFree.length → ports ≠ [] ∨ links ≠ [] →
        Counted s t Ctr.POOL_GROUP_STORED ∧ Counted s t Ctr.DOWN_GROUP_PLACED ∧
        Counted s t Ctr.SEAT_EGRESS_FULL ((List.finRange 32).filter (fun p => (s.seat p).state = .up ∧
          s.cfg.seatEgressLimit < queueBlocks (s.seat p).queue + b)).length ∧
        Counted s t Ctr.RADIO_EGRESS_FULL ((List.finRange 6).filter (fun r => (s.radio r).state = .up ∧
          (s.radio r).load < 12 ∧ s.cfg.radioEgressLimit < queueBlocks (s.radio r).queue + b)).length ∧
        Counted s t Ctr.DOWN_DEGRADE ((List.finRange 6).filter (fun r => (s.radio r).state = .up ∧
          12 ≤ (s.radio r).load)).length ∧
        (∀ p, p ∉ ports → t.seat p = s.seat p) ∧ (∀ r, r ∉ links → t.radio r = s.radio r) ∧
        (∀ p, p ∈ ports →
          let q : SeatPort := { s.seat p with queue := (s.seat p).queue ++ [.group f] }
          (q.tx ≠ .idle ∨ q.link = false ∨ q.pendingPause = none ∧ q.rxPause ≠ none → t.seat p = q) ∧
          (∀ time, q.tx = .idle → q.link = true → q.pendingPause = some time →
            t.seat p = { q with pendingPause := none, tx := .sendingPause time }) ∧
          (q.tx = .idle → q.link = true → q.pendingPause = none → q.rxPause = none →
            passes (s.seat p).queue → t.seat p = { q with tx := .delivering })) ∧
        (∀ r, r ∈ links →
          let q : RadioLink := { s.radio r with queue := (s.radio r).queue ++ [.group f] }
          (q.tx ≠ .idle ∨ q.drops = [] ∧ q.credit = 0 → t.radio r = q) ∧
          (∀ a rest, q.tx = .idle → q.drops = a :: rest →
            t.radio r = { q with drops := rest, tx := .sendingDrop a }) ∧
          (q.tx = .idle → q.drops = [] → 0 < q.credit → passes (s.radio r).queue →
            t.radio r = { q with tx := .sendingData, sent := q.sent + 1 })) ∧
        ((∀ p ∈ ports, (s.seat p).tx = .idle → passes (s.seat p).queue) →
          (∀ r ∈ links, (s.radio r).tx = .idle → passes (s.radio r).queue) →
          t.mem = { s.mem with
            downlinkFree := s.mem.downlinkFree.drop b
            groups := { frame := f, refs := ports.length + links.length } :: s.mem.groups }))

/-! ## The own cycle -/

/-- The allotment of a station of the set never exceeds the capacity or its demand, is at least the floor it has
demand for, and over the whole set the allotments share out no more than the capacity. (From R42, R43, R44,
R45.) -/
def Obligations.AllotmentBounds : Prop :=
  ∀ (c f : Nat) (set : List Share), set.length ≤ 32 → f ≤ c / 64 →
    (∀ x ∈ set, x.allotment c f set ≤ min c x.d ∧ min f x.d ≤ x.allotment c f set) ∧
    (set.map (fun x => x.allotment c f set)).sum ≤ c ∧
    (∀ x, set = [x] → x.allotment c f set = min x.d c)

/-- An own cycle expiry brings the conflict state up to date, which ends at the fourth expiry in a row without a
report; takes the own demand and weight from the client table and the cycle charge; and computes the
allotment for the operating state and the conflict state. Choices of the model in it: log entry 2. (From
R30, R31, R32, R35, R38, R39, R40, R41, R45.) -/
def Obligations.OwnCycleTakesTheMeasure : Prop :=
  ∀ (s : State) (due : Nat), s.active = true → s.tally.cycleTimer = some due →
    s.Timely .ownCycleExpiry due →
    let d := min 65535 ((s.clients.toList.map Client.blocks).sum + s.sched.cycleCharge)
    let w := ((s.clients.toList.filter (fun c => c.state.present && (!c.queue.isEmpty || c.charged))).map
      (fun c => s.cfg.weight c.cls)).sum
    ∃ t, exec .ownCycleExpiry s = .next t ∧
      t.tally.cycleTimer = some (max s.now due + Config.msTicks (10 * s.cfg.period)) ∧
      t.tally.peers = s.tally.peers ∧ t.now = max s.now due ∧ t.ctl = s.ctl ∧ t.pending = s.pending ∧
      t.raised = s.raised.erase .ownCycleExpiry ∧
      t.radios = s.radios ∧ t.claimSeq = s.claimSeq ∧
      Counted s t Ctr.TALLY_POSTED ∧ Counted s t Ctr.SCHED_UPDATES ∧
      (s.op = .hold → t.tally.lastD = 0 ∧ t.tally.lastW = 0 ∧ t.tally.lastA = 0) ∧
      (s.op = .running → t.tally.lastD = d ∧ t.tally.lastW = w) ∧
      (s.op = .running → t.tally.conflict = .conflict → t.tally.lastA = min s.cfg.floor d) ∧
      (s.op = .running → t.tally.conflict = .normal → t.tally.lastA =
        Share.allotment { d := d, w := w } s.cfg.capacity s.cfg.floor
          ({ d := d, w := w } :: (s.tally.peers.filter (fun q => !q.hold)).map
            (fun q => { d := q.d, w := q.w }))) ∧
      t.tally.reportMark = false ∧
      (s.tally.conflict = .normal → t.tally.conflict = .normal ∧ t.tally.clean = s.tally.clean) ∧
      (s.tally.conflict = .conflict → s.tally.reportMark = true →
        t.tally.conflict = .conflict ∧ t.tally.clean = s.tally.clean) ∧
      (s.tally.conflict = .conflict → s.tally.reportMark = false → s.tally.clean < 3 →
        t.tally.conflict = .conflict ∧ t.tally.clean = s.tally.clean + 1) ∧
      (s.tally.conflict = .conflict → s.tally.reportMark = false → 3 ≤ s.tally.clean →
        t.tally.conflict = .normal ∧ t.tally.clean = 0)

/-- The TALLY an own cycle expiry posts: it takes the place of the one waiting, or the tail of the queue, or is
dropped; at a send opportunity the oldest record goes to the slot at once, which is the TALLY itself where
none waited. Then the allotment update: the credit, the quotas, and the new cycle of charging. Choices of
the model in it: log entry 2. (From R10, R17, R19, R30, R33, R34, R106, R107, R108, R109.) -/
def Obligations.OwnCyclePostsAndPublishes : Prop :=
  ∀ (s : State) (due : Nat), s.active = true → s.tally.cycleTimer = some due →
    s.Timely .ownCycleExpiry due →
    ∃ t, exec .ownCycleExpiry s = .next t ∧
      let record := CtrlRec.tally t.tally.lastD t.tally.lastW t.tally.lastA s.cfg.period (s.op == .hold)
        (t.tally.conflict == .conflict) (s.clients.toList.filter (·.state.present)).length
      let aeff := if s.op = .hold then 0 else max t.tally.lastA s.cfg.floor
      t = { s.atTime .ownCycleExpiry due with
        tally := t.tally, line := t.line, counters := t.counters, sched := t.sched, clients := t.clients } ∧
      (∀ pre old post, s.line.queue = pre ++ old :: post → old.isTally = true →
        (∀ r ∈ pre, r.isTally = false) →
        Sent s t (pre ++ record :: post) ∧ Counted s t Ctr.LINE_TALLY_MISSED) ∧
      ((∀ r ∈ s.line.queue, r.isTally = false) → s.line.queue.length < 8 →
        Sent s t (s.line.queue ++ [record]) ∧ Counted s t Ctr.LINE_TALLY_MISSED 0) ∧
      ((∀ r ∈ s.line.queue, r.isTally = false) → 8 ≤ s.line.queue.length →
        Sent s t s.line.queue ∧ Counted s t Ctr.LINE_TALLY_MISSED) ∧
      t.sched = { s.sched with
        aeff := aeff, credit := aeff + min s.sched.credit 0, cycleCharge := 0 } ∧
      Counted s t Ctr.SCHED_DEBT_CYCLES (if s.sched.credit < 0 then 1 else 0) ∧
      Counted s t Ctr.SCHED_CREDIT_FORFEIT s.sched.credit.toNat ∧
      ∀ i, t.client i = { s.client i with
        used := 0, charged := false
        quota :=
          if (s.client i).state.present = true ∧ ((s.client i).queue ≠ [] ∨ (s.client i).charged = true) ∧
              0 < t.tally.lastW then
            aeff * s.cfg.weight (s.client i).cls / t.tally.lastW
          else 0 }

/-! ## Seat ports -/

/-- A frame at a port that is not UP, a damaged frame, and a MAC control frame: what is counted, and the port's
quarantine at the 32nd bad frame of a window. Choices of the model in it: log entries 11, 30. (From R61,
R124, R129, R130, R131, R135.) -/
def Obligations.SeatFramesThatAreNotLookedUp : Prop :=
  ∀ (s : State) (p : Fin 32) (bytes : List Byte),
    let counted (s : State) (c : Counter) : State :=
      { s with counters := s.counters.set c (satAdd s.counters[c] 1) }
    let seatBecomes (s : State) (q : SeatPort) : State := { s with seats := s.seats.set p q }
    let damaged := bytes.length < 64 ∨ 1522 < bytes.length ∨ fcsPasses bytes = false
    let mac := (bytes.getD 12 0).toNat = 0x88 ∧ (bytes.getD 13 0).toNat = 0x08
    let isPause := (bytes.getD 14 0).toNat = 0 ∧ (bytes.getD 15 0).toNat = 1
    let q := (bytes.getD 16 0).toNat * 256 + (bytes.getD 17 0).toNat
    ((s.seat p).state = .held → exec (.seatFrameArrival p bytes) s = .next s) ∧
    (((s.seat p).state = .absent ∨ (s.seat p).state = .settling ∨ (s.seat p).state = .quiet) →
      exec (.seatFrameArrival p bytes) s = .next (counted s Ctr.SEAT_RX_IGNORED)) ∧
    ((s.seat p).state = .up → damaged → (s.seat p).bad < 31 →
      exec (.seatFrameArrival p bytes) s =
        .next (seatBecomes (counted s Ctr.SEAT_RX_BAD) { s.seat p with bad := (s.seat p).bad + 1 })) ∧
    ((s.seat p).state = .up → damaged → 31 ≤ (s.seat p).bad →
      ∃ t, exec (.seatFrameArrival p bytes) s = .next t ∧ Quarantined s t p ∧
        Counted s t Ctr.SEAT_RX_BAD) ∧
    ((s.seat p).state = .up → ¬ damaged → mac → ¬ isPause →
      exec (.seatFrameArrival p bytes) s = .next (counted s Ctr.SEAT_RX_CONTROL)) ∧
    ((s.seat p).state = .up → ¬ damaged → mac → isPause → 0 < q →
      exec (.seatFrameArrival p bytes) s =
        .next (seatBecomes (counted s Ctr.SEAT_RX_PAUSE)
          { s.seat p with rxPause := some (s.now + quantaTicks (s.seat p).speed q) })) ∧
    ((s.seat p).state = .up → ¬ damaged → mac → isPause → q = 0 → (s.seat p).tx ≠ .idle →
      exec (.seatFrameArrival p bytes) s =
        .next (seatBecomes (counted s Ctr.SEAT_RX_PAUSE) { s.seat p with rxPause := none }))

/-- The pause frames the part sends to a seat are pause frames by the rule it reads them by: 64 bytes, the FCS
good, the time sent read back. Choices of the model in it: log entry 30. (From R124, R128.) -/
def Obligations.PauseFrameIsReadBack : Prop :=
  ∀ (station : Nat) (p : Fin 32) (time : BitVec 16),
    (pauseFrame station p time).length = 64 ∧ classifySeat (pauseFrame station p time) = .pause time.toNat

/-- A passenger frame at a port in UP from a client held there: the client is heard, and the frame is discarded
for a barred class, dropped at the client's limit, dropped at a short pool, or stored and appended to the
client's uplink queue. Where no passenger frame then goes to the slot, the port judges its pause state: with
PAUSING clear and a client at H blocks or more it pauses, with PAUSING set and every client below L it
releases, and otherwise it stays as it was. At a send opportunity the transmitter takes the oldest control
record, or, with none waiting and credit above 0, the head frame of the entry that the scheduler serves,
which is the frame just queued where no other waits; without credit it takes nothing. Choices of the model
in it: log entries 9, 15. (From R10, R54, R57, R60, R93, R94, R111, R113, R114, R126, R127, R133.) -/
def Obligations.SeatFrameOfAClientIsQueued : Prop :=
  ∀ (s : State) (p : Fin 32) (bytes : List Byte) (src : Addr) (i : Fin 256),
    (s.seat p).state = .up → classifySeat bytes = .passenger src → isGroupAddr src = false →
    s.lookup src = some i → ((s.client i).state = .probation ∨ (s.client i).state = .localHeld) →
    (s.client i).attach = .seat p →
    let b := (bytes.length + 127) / 128
    let heard : Client := { s.client i with heardAt := s.runNow }
    let queued : State := { s with
      clients := s.clients.set i { heard with queue := (s.client i).queue ++
        [{ frame := { blocks := s.mem.uplinkFree.take b, data := bytes }, cls := (s.client i).cls, owner := i }] }
      mem := { s.mem with uplinkFree := s.mem.uplinkFree.drop b } }
    ∃ t, exec (.seatFrameArrival p bytes) s = .next t ∧ t.outer = s.outer ∧
      (s.cfg.priority (s.client i).cls = 0 →
        t = { s with counters := t.counters, clients := s.clients.set i heard } ∧
        Counted s t Ctr.CLIENT_RX_BARRED) ∧
      (0 < s.cfg.priority (s.client i).cls → s.cfg.uplinkLimit < (s.client i).blocks + b →
        t = { s with counters := t.counters, clients := s.clients.set i heard } ∧
        Counted s t Ctr.SEAT_RX_LIMIT_DROP) ∧
      (0 < s.cfg.priority (s.client i).cls → (s.client i).blocks + b ≤ s.cfg.uplinkLimit →
        s.mem.uplinkFree.length < b →
        t = { s with counters := t.counters, clients := s.clients.set i heard } ∧
        Counted s t Ctr.POOL_UPLINK_SHORT) ∧
      (0 < s.cfg.priority (s.client i).cls → (s.client i).blocks + b ≤ s.cfg.uplinkLimit →
        b ≤ s.mem.uplinkFree.length →
        Counted s t Ctr.SEAT_RX_QUEUED ∧ t.radios = s.radios ∧ t.tally = s.tally ∧
        (s.opportunity = true → s.line.queue ≠ [] →
          t.clients = queued.clients ∧ t.mem = queued.mem ∧ t.sched = s.sched ∧ Sent s t s.line.queue) ∧
        (s.opportunity = true → s.line.queue = [] → s.sched.credit ≤ 0 →
          t.clients = queued.clients ∧ t.mem = queued.mem ∧ t.sched = s.sched ∧ t.line = s.line ∧
          Counted s t Ctr.SCHED_NO_CREDIT) ∧
        (∀ ph j rec rest, s.opportunity = true → s.line.queue = [] → 0 < s.sched.credit →
          queued.Served ph j → (queued.client j).queue = rec :: rest → Handover queued t ph j rec rest) ∧
        (s.opportunity = false →
          t.clients = queued.clients ∧ t.mem = queued.mem ∧ t.line = s.line ∧ t.sched = s.sched) ∧
        (s.opportunity = false ∨ s.line.queue ≠ [] ∨ s.sched.credit ≤ 0 →
          OtherSeats s t p ∧
          let high := max (s.cfg.uplinkLimit - 16) (s.cfg.uplinkLimit / 2)
          let low := s.cfg.uplinkLimit / 2
          let q := s.seat p
          (q.pausing = false → (∃ j, s.ClientOf p j ∧ high ≤ (t.client j).blocks) →
            t.seat p = ({ q with pausing := true, refreshTimer := some (s.now + Config.refreshTicks) }
              : SeatPort).pauseMade 65535 ∧ Counted s t Ctr.SEAT_PAUSE_ON) ∧
          (q.pausing = true → (∀ j, s.ClientOf p j → (t.client j).blocks < low) →
            t.seat p = ({ q with pausing := false, refreshTimer := none } : SeatPort).pauseMade 0 ∧
            Counted s t Ctr.SEAT_PAUSE_ON 0) ∧
          (q.pausing = false → (∀ j, s.ClientOf p j → (t.client j).blocks < high) →
            t.seat p = q ∧ Counted s t Ctr.SEAT_PAUSE_ON 0) ∧
          (q.pausing = true → (∃ j, s.ClientOf p j ∧ low ≤ (t.client j).blocks) →
            t.seat p = q ∧ Counted s t Ctr.SEAT_PAUSE_ON 0)))

/-- An admission from a seat: the lowest FREE way of the bucket becomes PROBATION with a raised tenancy and the
port's class, its CLAIM is posted and CLIENT_ADDED is posted, and the frame is discarded for a barred class,
dropped at the client's limit or a short pool, or is the new entry's first record. Choices of the model in
it: log entries 9, 17. (From R47, R48, R49, R53, R54, R57, R71, R72, R93, R94, R126.) -/
def Obligations.SeatFrameAdmitsANewClient : Prop :=
  ∀ (s : State) (p : Fin 32) (bytes : List Byte) (src : Addr) (i : Fin 256),
    (s.seat p).state = .up → classifySeat bytes = .passenger src → isGroupAddr src = false →
    s.lookup src = none → s.atLimit p = false → i ∈ waysOf src → (s.client i).state = .free →
    (∀ j ∈ waysOf src, j.val < i.val → (s.client j).state ≠ .free) →
    ∃ t, exec (.seatFrameArrival p bytes) s = .next t ∧ t.outer = s.outer ∧
      (t.client i).addr = src ∧ (t.client i).state = .probation ∧
      (t.client i).tenancy = (s.client i).tenancy + 1 ∧ (t.client i).attach = .seat p ∧
      (t.client i).cls = s.cfg.portClasses[p] ∧ (t.client i).net = none ∧
      (t.client i).claimNum = s.claimSeq + 1 ∧ t.claimSeq = s.claimSeq + 1 ∧
      (t.client i).heardAt = s.runNow ∧
      (t.client i).timer = some (s.now + Config.msTicks s.cfg.holdOffMs) ∧ (t.client i).quota = 0 ∧
      (t.client i).used = 0 ∧ (t.client i).charged = false ∧ (t.client i).flapCount = 0 ∧
      (t.client i).flapStart = none ∧ (t.client i).pendingJoin = none ∧
      OtherClients s t i ∧ t.sched = s.sched ∧ t.radios = s.radios ∧ t.tally = s.tally ∧
      TakenIn s t i bytes [] ∧ t.mem.downlinkFree = s.mem.downlinkFree ∧ t.mem.groups = s.mem.groups ∧
      Offered s t (.claim src (s.claimSeq + 1) s.cfg.portClasses[p]) ∧
      Posted s t (.clientAdded i ((s.client i).tenancy + 1) src (.seat p)) ∧
      Counted s t Ctr.CLIENT_ADMITTED ∧ Counted s t Ctr.CLAIM_POSTED

/-- A frame from a group address, one refused at the port's client limit, and one refused for want of a FREE
way: UNADMITTED and NO_ROOM change no entry and count toward the port's fault window, and the 16th of a
window sends the port QUIET. Choices of the model in it: log entries 11, 17. (From R49, R54, R58, R61, R125,
R130, R131.) -/
def Obligations.SeatFrameIsRefused : Prop :=
  ∀ (s : State) (p : Fin 32) (bytes : List Byte) (src : Addr),
    (s.seat p).state = .up → classifySeat bytes = .passenger src →
    let port : SeatPort := { s.seat p with unadmitted := (s.seat p).unadmitted + 1 }
    let few := (s.seat p).unadmitted < 15
    (isGroupAddr src = true →
      ∃ t, exec (.seatFrameArrival p bytes) s = .next t ∧
        (few → t = { s with counters := t.counters, seats := s.seats.set p port }) ∧
        (¬ few → Quarantined s t p) ∧
        Counted s t Ctr.SEAT_RX_UNADMITTED ∧ Counted s t Ctr.CLIENT_LIMIT_REFUSED 0) ∧
    (isGroupAddr src = false → s.atLimit p = true →
      (s.lookup src = none ∨ ∃ i, s.lookup src = some i ∧
        ((s.client i).state = .leaving ∨
          ((s.client i).state = .probation ∨ (s.client i).state = .localHeld) ∧
            (s.client i).attach ≠ .seat p)) →
      ∃ t, exec (.seatFrameArrival p bytes) s = .next t ∧
        (few → t = { s with counters := t.counters, seats := s.seats.set p port }) ∧
        (¬ few → Quarantined s t p) ∧
        Counted s t Ctr.SEAT_RX_UNADMITTED ∧ Counted s t Ctr.CLIENT_LIMIT_REFUSED) ∧
    (isGroupAddr src = false → s.atLimit p = false → s.lookup src = none →
      (∀ j ∈ waysOf src, (s.client j).state ≠ .free) →
      ∃ t, exec (.seatFrameArrival p bytes) s = .next t ∧
        (few → t = { s with counters := t.counters, seats := s.seats.set p port, alerts := t.alerts
                            notices := t.notices } ∧ Posted s t (.tableFull src (.seat p))) ∧
        (¬ few → Quarantined s t p) ∧
        Counted s t Ctr.SEAT_RX_UNADMITTED ∧ Counted s t Ctr.CLIENT_NO_ROOM ∧
        Raised s t Alert.CLIENT_TABLE_FULL)

/-- A seat frame that moves a client of this carriage to the port, or returns a LEAVING one to LOCAL there,
where there is no send opportunity: the entry's attachment, the notice, and the frame, which is discarded
for a barred class, dropped at the client's limit or a short pool, or appended to the entry's queue. Choices
of the model in it: log entries 9, 17. (From R54, R57, R59, R64, R93, R94, R126.) -/
def Obligations.SeatFrameMovesOrReturnsAClient : Prop :=
  ∀ (s : State) (p : Fin 32) (bytes : List Byte) (src : Addr) (i : Fin 256),
    (s.seat p).state = .up → classifySeat bytes = .passenger src → isGroupAddr src = false →
    s.lookup src = some i → s.atLimit p = false → s.opportunity = false →
    (((s.client i).state = .probation ∨ (s.client i).state = .localHeld) ∧ (s.client i).attach ≠ .seat p ∨
      (s.client i).state = .leaving) →
    ∃ t, exec (.seatFrameArrival p bytes) s = .next t ∧ t.outer = s.outer ∧ OtherClients s t i ∧
      t.client i = { s.client i with
        attach := .seat p, net := none, heardAt := s.runNow
        state := if (s.client i).state = .leaving then .localHeld else (s.client i).state
        timer := if (s.client i).state = .leaving then none else (s.client i).timer
        queue := (t.client i).queue } ∧
      TakenIn s t i bytes (s.client i).queue ∧ t.mem.downlinkFree = s.mem.downlinkFree ∧
      t.mem.groups = s.mem.groups ∧
      Posted s t (.attachmentChanged i (s.client i).tenancy (s.client i).addr (.seat p)) ∧
      Counted s t Ctr.CLIENT_RETURNS (if (s.client i).state = .leaving then 1 else 0) ∧
      Counted s t Ctr.CLIENT_MOVES (if (s.client i).state = .leaving then 0 else 1) ∧
      Counted s t Ctr.CLIENT_RX_BARRED (if s.cfg.priority (s.client i).cls = 0 then 1 else 0) ∧
      t.line = s.line ∧ t.sched = s.sched ∧ t.radios = s.radios ∧ t.claimSeq = s.claimSeq

/-- A presence scan: each port takes one reading of its link indication and moves among ABSENT, SETTLING and UP
by it; QUIET and HELD ports take none. Choices of the model in it: log entries 2, 4, 8. (From R122, R123,
R61, R137.) -/
def Obligations.PresenceScanReadsEveryPort : Prop :=
  (∀ s : State, s.active = false ∨ .presenceScan ∈ s.raised ∧ ¬ s.Due .presenceScan →
    exec .presenceScan s = .next (s.without .presenceScan)) ∧
  (∀ s : State, s.active = true → (.presenceScan ∈ s.raised → s.Due .presenceScan) →
    ∃ t, exec .presenceScan s = .next t ∧ t.line = s.line ∧ t.sched = s.sched ∧ t.tally = s.tally ∧
      t.radios = s.radios ∧ t.ctl = s.ctl ∧ t.claimSeq = s.claimSeq ∧ t.pending = s.pending ∧
      t.raised = s.raised.erase .presenceScan ∧ (∀ d, s.scanTimer = some d → t.now = max s.now d) ∧
      t.scanTimer = some (t.now + Config.scanTicks) ∧
      ∀ p, let q := s.seat p
        (q.state = .absent → q.link = false → t.seat p = q) ∧
        (q.state = .absent → q.link = true → t.seat p = { q with state := .settling, reading := 1 }) ∧
        (q.state = .settling → q.link = true → q.reading < 2 →
          t.seat p = { q with reading := q.reading + 1 }) ∧
        (q.state = .settling → q.link = true → 2 ≤ q.reading →
          t.seat p = { q with
            state := .up, reading := 0, exitMark := false, speed := q.phySpeed, bad := 0, unadmitted := 0
            faultWindow := some (t.now + Config.faultTicks), pausing := false, pendingPause := none
            rxPause := none, tx := .idle, queue := [] }) ∧
        (q.state = .settling → q.link = false → q.exitMark = true → t.seat p = { q with reading := 0 }) ∧
        (q.state = .settling → q.link = false → q.exitMark = false →
          t.seat p = { q with state := .absent, reading := 0 }) ∧
        (q.state = .up → q.link = true → t.seat p = { q with reading := 0 }) ∧
        (q.state = .up → q.link = false → q.reading < 2 → t.seat p = { q with reading := q.reading + 1 }) ∧
        (q.state = .up → q.link = false → 2 ≤ q.reading →
          (t.seat p).state = .absent ∧ (t.seat p).reading = 0 ∧ (t.seat p).queue = [] ∧
          (t.seat p).tx = .idle ∧ (t.seat p).pausing = false ∧ (t.seat p).faultWindow = none ∧
          (t.seat p).refreshTimer = none ∧ (t.seat p).rxPause = none ∧ (t.seat p).pendingPause = none ∧
          ∀ i, (s.client i).attach = .seat p → t.client i = (s.client i).afterLoss t.now) ∧
        (q.state = .quiet ∨ q.state = .held → t.seat p = q))

/-- The expiries of a port's fault window, QUIET timer, pause refresh timer and received-pause timer, with the
transmit side at work so that it starts nothing. Choices of the model in it: log entry 2. (From R128, R129,
R130, R131, R133.) -/
def Obligations.SeatTimersExpire : Prop :=
  ∀ (s : State) (p : Fin 32) (d : Nat),
    ((s.seat p).faultWindow = some d → s.Timely (.faultWindowExpiry p) d →
      exec (.faultWindowExpiry p) s = .next { s.atTime (.faultWindowExpiry p) d with
      seats := s.seats.set p { s.seat p with
        bad := 0, unadmitted := 0, faultWindow := some (max s.now d + Config.faultTicks) } }) ∧
    ((s.seat p).quietTimer = some d → s.Timely (.quietTimerExpiry p) d →
      exec (.quietTimerExpiry p) s = .next { s.atTime (.quietTimerExpiry p) d with
      seats := s.seats.set p { s.seat p with
        state := .settling, reading := 0, exitMark := false, quietTimer := none } }) ∧
    ((s.seat p).pausing = true → (s.seat p).refreshTimer = some d → s.Timely (.pauseRefreshExpiry p) d →
      (s.seat p).tx ≠ .idle →
      exec (.pauseRefreshExpiry p) s = .next { s.atTime (.pauseRefreshExpiry p) d with
        seats := s.seats.set p { s.seat p with
          pendingPause := some 65535, refreshTimer := some (max s.now d + Config.refreshTicks) } }) ∧
    ((s.seat p).pausing = true → (s.seat p).refreshTimer = some d → s.Timely (.pauseRefreshExpiry p) d →
      (s.seat p).state = .up →
      (s.seat p).tx = .idle → (s.seat p).link = true →
      exec (.pauseRefreshExpiry p) s = .next { s.atTime (.pauseRefreshExpiry p) d with
        seats := s.seats.set p { s.seat p with
          pendingPause := none, tx := .sendingPause 65535
          refreshTimer := some (max s.now d + Config.refreshTicks) } }) ∧
    ((s.seat p).rxPause = some d → s.Timely (.receivedPauseExpiry p) d → (s.seat p).tx ≠ .idle →
      exec (.receivedPauseExpiry p) s = .next { s.atTime (.receivedPauseExpiry p) d with
        seats := s.seats.set p { s.seat p with rxPause := none } }) ∧
    (∀ pos rest, (s.seat p).rxPause = some d → s.Timely (.receivedPauseExpiry p) d →
      (s.seat p).state = .up → (s.seat p).tx = .idle →
      (s.seat p).link = true → (s.seat p).pendingPause = none → (s.seat p).queue = pos :: rest →
      s.stale pos = false →
      exec (.receivedPauseExpiry p) s = .next { s.atTime (.receivedPauseExpiry p) d with
        seats := s.seats.set p { s.seat p with rxPause := none, tx := .delivering } })

/-- The end of a delivery and of a pause frame, and the edges of the link indication: the position under way
ends as delivered or lost, a pause frame cut off becomes pending again, and with nothing waiting, or with no
link, the transmit side stays idle. A port that looks for its next frame ends the positions of heads that
fail the stale check, each counted in DOWN_STALE, and delivers the first head that passes; what fails the
check is a unicast frame whose entry has another tenancy or attachment, or is not PROBATION or LOCAL.
Choices of the model in it: log entries 4, 6, 9. (From R98, R133, R134, R159.) -/
def Obligations.SeatTransmitSideEnds : Prop :=
  ∀ (s : State) (p : Fin 32),
    (∀ pos, (s.seat p).tx = .delivering → (s.seat p).queue = [pos] → (s.seat p).pendingPause = none →
      ∃ t, exec (.seatDeliveryCompletion p) s = .next t ∧
        t = { s.endPosition pos with
          seats := s.seats.set p { s.seat p with queue := [], tx := .idle }, counters := t.counters } ∧
        Counted s t Ctr.SEAT_TX_FRAMES) ∧
    (∀ pos old tail, (s.seat p).tx = .delivering → (s.seat p).queue = pos :: (old ++ tail) →
      (s.seat p).state = .up → (s.seat p).link = true → (s.seat p).pendingPause = none →
      (s.seat p).rxPause = none → (∀ x ∈ old, s.stale x = true) →
      (∀ nxt more, tail = nxt :: more → s.stale nxt = false) →
      ∃ t, exec (.seatDeliveryCompletion p) s = .next t ∧
        t = { List.foldl State.endPosition s (pos :: old) with
          seats := s.seats.set p { s.seat p with
            queue := tail, tx := if tail = [] then .idle else .delivering }
          counters := t.counters } ∧
        Counted s t Ctr.SEAT_TX_FRAMES ∧ Counted s t Ctr.DOWN_STALE old.length) ∧
    (∀ u : UnicastRec, s.stale (.unicast u) = true ↔
      (s.client u.dest).tenancy ≠ u.tenancy ∨ (s.client u.dest).attach ≠ u.attach ∨
        ¬ ((s.client u.dest).state = .probation ∨ (s.client u.dest).state = .localHeld)) ∧
    (∀ f, s.stale (.group f) = false) ∧
    ((s.seat p).tx ≠ .delivering → exec (.seatDeliveryCompletion p) s = .next s) ∧
    (∀ time, (s.seat p).tx = .sendingPause time → (s.seat p).queue = [] → (s.seat p).pendingPause = none →
      ∃ t, exec (.seatPauseSendCompletion p) s = .next t ∧
        t = { s with seats := s.seats.set p { s.seat p with tx := .idle }, counters := t.counters } ∧
        Counted s t Ctr.SEAT_PAUSE_SENT) ∧
    ((∀ time, (s.seat p).tx ≠ .sendingPause time) → exec (.seatPauseSendCompletion p) s = .next s) ∧
    (∀ pos rest, (s.seat p).tx = .delivering → (s.seat p).queue = pos :: rest →
      ∃ t, exec (.seatLinkIndicationFall p) s = .next t ∧
        t = { s.endPosition pos with
          seats := s.seats.set p { s.seat p with queue := rest, tx := .idle, link := false }
          counters := t.counters } ∧
        Counted s t Ctr.SEAT_TX_LOST) ∧
    (∀ time, (s.seat p).tx = .sendingPause time →
      exec (.seatLinkIndicationFall p) s = .next { s with
        seats := s.seats.set p { s.seat p with
          tx := .idle, link := false
          pendingPause := some ((s.seat p).pendingPause.getD time) } }) ∧
    ((s.seat p).tx = .idle → exec (.seatLinkIndicationFall p) s = .next { s with
      seats := s.seats.set p { s.seat p with link := false } }) ∧
    (∀ speed time, (s.seat p).state = .up → (s.seat p).tx = .idle → (s.seat p).pendingPause = some time →
      exec (.seatLinkIndicationRise p speed) s = .next { s with
        seats := s.seats.set p { s.seat p with
          link := true, phySpeed := speed, pendingPause := none, tx := .sendingPause time } }) ∧
    (∀ speed, (s.seat p).state ≠ .up → exec (.seatLinkIndicationRise p speed) s = .next { s with
      seats := s.seats.set p { s.seat p with link := true, phySpeed := speed } })

/-! ## Reclaims -/

/-- A seat frame or a JOIN that finds its entry in MOVED. With fewer than three reclaims in the open flap window
it reclaims the entry into PROBATION, and a seat frame is taken in for it; at three, in flap hold, the frame
is dropped or the JOIN kept as the pending reattachment, and the tombstone lasts to the end of the window;
and a seat port at its client limit refuses, with a window that the request opened left open. At the very
end of its 10 s the window counts as ended (model's choice, log entry 33). Choices of the model in it: log
entries 6, 9, 17, 33. (From R54, R55, R57, R58, R85, R86, R88, R94, R126, R131.) -/
def Obligations.ReclaimAndFlapHold : Prop :=
  ∀ (s : State) (c : Instr) (src : Addr) (i : Fin 256) (att : Attachment) (net : Option (Fin 4)),
    ((∃ p bytes, c = .seatFrameArrival p bytes ∧ att = .seat p ∧ net = none ∧ (s.seat p).state = .up ∧
        classifySeat bytes = .passenger src ∧ isGroupAddr src = false) ∨
      (∃ r bytes k, c = .radioMessageArrival r bytes ∧ att = .radio r ∧ net = some k ∧
        s.RadioTakes r bytes (.join src k))) →
    s.lookup src = some i → (s.client i).state = .moved →
    let count := if s.windowOpen i = true then (s.client i).flapCount else 0
    let start := if s.windowOpen i = true then (s.client i).flapStart else some s.now
    (count < 3 → (∀ p, att = .seat p → s.atLimit p = false) →
      ∃ t, exec c s = .next t ∧ t.outer = s.outer ∧ OtherClients s t i ∧ t.sched = s.sched ∧
        t.tally = s.tally ∧ t.claimSeq = s.claimSeq + 1 ∧ t.mem.downlinkFree = s.mem.downlinkFree ∧
        (∀ q, att ≠ .seat q → t.seat q = s.seat q) ∧
        (∀ r, t.radio r = if att = .radio r then { s.radio r with signal := true } else s.radio r) ∧
        t.client i = { s.client i with
          state := .probation, attach := att, net := net, cls := (t.client i).cls
          claimNum := s.claimSeq + 1, heardAt := s.runNow
          timer := some (s.now + Config.msTicks s.cfg.holdOffMs), pendingJoin := none
          flapCount := count + 1, flapStart := start, queue := (t.client i).queue } ∧
        (∀ p, att = .seat p → (t.client i).cls = s.cfg.portClasses[p]) ∧
        (∀ k, net = some k → (t.client i).cls = s.cfg.netClasses[k] ∧
          (t.client i).queue = (s.client i).queue ∧ t.mem = s.mem) ∧
        (∀ p bytes, c = .seatFrameArrival p bytes → TakenIn s t i bytes (s.client i).queue) ∧
        Offered s t (.claim (s.client i).addr (s.claimSeq + 1) (t.client i).cls) ∧
        Posted s t (.clientAdded i (s.client i).tenancy (s.client i).addr att) ∧
        Counted s t Ctr.CLAIM_RECLAIMS ∧ Counted s t Ctr.CLAIM_POSTED) ∧
    (∀ due from_, 3 ≤ count → (s.client i).timer = some due → (s.client i).flapStart = some from_ →
      ∃ t, exec c s = .next t ∧
        (∀ p, att = .seat p →
          t = { s with counters := t.counters
                       clients := s.clients.set i { s.client i with
                         timer := some (max due (from_ + Config.flapTicks)) } } ∧
          Counted s t Ctr.CLAIM_FLAP_DROPPED) ∧
        (∀ r k, att = .radio r → net = some k →
          t = { s with counters := t.counters, radios := s.heardOn r
                       clients := s.clients.set i { s.client i with
                         timer := some (max due (from_ + Config.flapTicks)), pendingJoin := some (r, k) } } ∧
          Counted s t Ctr.CLAIM_FLAP_DEFERRED ∧ Counted s t Ctr.RADIO_RX_JOIN)) ∧
    (∀ p, att = .seat p → count < 3 → s.atLimit p = true →
      let opened : State :=
        { s with clients := s.clients.set i { s.client i with flapCount := count, flapStart := start } }
      ∃ t, exec c s = .next t ∧
        ((s.seat p).unadmitted < 15 →
          t = { opened with
            counters := t.counters
            seats := s.seats.set p { s.seat p with unadmitted := (s.seat p).unadmitted + 1 } }) ∧
        (15 ≤ (s.seat p).unadmitted → Quarantined opened t p) ∧
        Counted s t Ctr.CLIENT_LIMIT_REFUSED ∧ Counted s t Ctr.SEAT_RX_UNADMITTED)

/-! ## Radio links -/

/-- A STATUS taken in DOWN brings the link UP: the fields from the STATUS, S set to T, the liveness timer
started, the transmit side idle with nothing pending, two counts, no resync, and nothing else. (Formalises
R141.) -/
def Obligations.StatusBringsTheLinkUp : Prop :=
  ∀ (s : State) (r : Fin 6) (bytes : List Byte) (load buffer : Nat) (taken : BitVec 16),
    (s.radio r).state = .down → (s.radio r).signal = true →
    parseRadio bytes = some (.status load buffer taken) →
    ∃ t, exec (.radioMessageArrival r bytes) s = .next t ∧
      t = { s with
        counters := t.counters
        radios := s.radios.set r { s.radio r with
          state := .up, liveness := some (s.now + Config.livenessTicks), load := load, buffer := buffer
          taken := taken, sent := taken, tx := .idle, drops := [], queue := [] } } ∧
      (t.radio r).outstanding = 0 ∧ Counted s t Ctr.RADIO_LINK_UP ∧ Counted s t Ctr.RADIO_RX_STATUS ∧
      ∀ c, c ≠ Ctr.RADIO_LINK_UP → c ≠ Ctr.RADIO_RX_STATUS → t.counters[c] = s.counters[c]

/-- A message at a HELD link is ignored, a malformed one at any other is counted, and one that is no STATUS is
ignored in DOWN. A STATUS in UP takes its values, restarts the liveness timer, resyncs S to a T ahead of it,
counts a credit of 0 with frames queued, and lets an idle transmit side look for work: with credit, heads
that fail the load degrade or the stale check end their positions and are counted, and the first that passes
is sent. The link signal shown by a message is the model's choice (log entry 6). Choices of the model in it:
log entries 6, 16, 29. (From R140, R142, R144, R148, R149, R159.) -/
def Obligations.RadioMessagesAndStatus : Prop :=
  ∀ (s : State) (r : Fin 6) (bytes : List Byte),
    let b (k : Nat) : Nat := (bytes.getD k 0).toNat
    let body := bytes.length - 8
    let malformed := bytes.length < 8 ∨ checkPasses bytes = false ∨ b 2 % 8 * 256 + b 3 ≠ body ∨
      ¬ (b 0 = 1 ∧ 64 ≤ body ∧ body ≤ 1522 ∨
         b 0 = 2 ∧ body = 6 ∧ b 4 ≤ 15 ∧ 1 ≤ b 6 * 256 + b 7 ∧ b 6 * 256 + b 7 ≤ 1024 ∨
         b 0 = 3 ∧ body = 8 ∧ b 4 % 2 = 0 ∧ b 10 ≤ 3 ∨
         b 0 = 4 ∧ body = 8 ∧ b 4 % 2 = 0 ∧ (b 10 = 1 ∨ b 10 = 2))
    let q := s.radio r
    let seen (c : Counter) : State :=
      { s with radios := s.heardOn r, counters := s.counters.set c (satAdd s.counters[c] 1) }
    (q.state = .held → exec (.radioMessageArrival r bytes) s = .next { s with radios := s.heardOn r }) ∧
    (q.state ≠ .held → malformed →
      exec (.radioMessageArrival r bytes) s = .next (seen Ctr.RADIO_RX_BAD)) ∧
    (q.state = .down → ¬ malformed → b 0 ≠ 2 →
      exec (.radioMessageArrival r bytes) s = .next (seen Ctr.RADIO_RX_IGNORED)) ∧
    (q.state = .up → ¬ malformed → b 0 = 2 →
      let taken : BitVec 16 := BitVec.ofNat 16 (b 8 * 256 + b 9)
      let buffer := b 6 * 256 + b 7
      let resync : Bool := 1 ≤ (taken - q.sent).toNat && (taken - q.sent).toNat ≤ 32767
      let sent := if resync = true then taken else q.sent
      let credit := buffer - (sent - taken).toNat
      let degraded (x : EgressPos) : Bool := 12 ≤ b 4 && x.degradable
      let told : RadioLink := { q with
        signal := true, liveness := some (s.now + Config.livenessTicks), load := b 4, buffer := buffer
        taken := taken, sent := sent }
      ∃ t, exec (.radioMessageArrival r bytes) s = .next t ∧ OtherRadios s t r ∧ t.outer = s.outer ∧
        t.line = s.line ∧ t.sched = s.sched ∧ t.tally = s.tally ∧ t.clients = s.clients ∧
        t.seats = s.seats ∧ t.alerts = s.alerts ∧ t.notices = s.notices ∧
        Counted s t Ctr.RADIO_RX_STATUS ∧
        Counted s t Ctr.RADIO_RESYNC (if resync = true then 1 else 0) ∧
        Counted s t Ctr.RADIO_NO_CREDIT (if credit = 0 ∧ q.queue ≠ [] then 1 else 0) ∧
        (q.tx ≠ .idle → t.radio r = told ∧ t.mem = s.mem) ∧
        (∀ a rest, q.tx = .idle → q.drops = a :: rest →
          t.radio r = { told with drops := rest, tx := .sendingDrop a } ∧ t.mem = s.mem) ∧
        (q.tx = .idle → q.drops = [] → credit = 0 ∨ q.queue = [] → t.radio r = told ∧ t.mem = s.mem) ∧
        (∀ old tail, q.tx = .idle → q.drops = [] → 0 < credit → q.queue = old ++ tail →
          (∀ x ∈ old, degraded x = true ∨ s.stale x = true) →
          (∀ nxt more, tail = nxt :: more → degraded nxt = false ∧ s.stale nxt = false) →
          t.radio r = { told with
            queue := tail, tx := if tail = [] then .idle else .sendingData
            sent := if tail = [] then sent else sent + 1 } ∧
          t.mem = (List.foldl State.endPosition s old).mem ∧
          Counted s t Ctr.RADIO_DEGRADE_DROP (old.filter degraded).length ∧
          Counted s t Ctr.DOWN_STALE (old.filter (fun x => !degraded x)).length))

/-- A DATA message taken in UP: unassociated unless its source is present on this radio; the client it comes
from is heard; and the frame is discarded for a barred class, dropped at the client's limit, dropped at a
short pool, or stored and appended to the client's uplink queue. At a send opportunity the transmitter takes
the oldest control record, or with credit the head frame of the entry that the scheduler serves. Choices of
the model in it: log entries 6, 9. (From R10, R56, R57, R60, R93, R94, R111, R113, R114, R145.) -/
def Obligations.RadioDataIsQueued : Prop :=
  ∀ (s : State) (r : Fin 6) (bytes data : List Byte), s.RadioTakes r bytes (.data data) →
    let src := addrAt data 6
    let b := (data.length + 127) / 128
    ∃ t, exec (.radioMessageArrival r bytes) s = .next t ∧ t.outer = s.outer ∧
      ((isGroupAddr src = true ∨ s.lookup src = none ∨ ∃ i, s.lookup src = some i ∧
          ((s.client i).state.present = false ∨ (s.client i).attach ≠ .radio r)) →
        t = { s with radios := s.heardOn r, counters := t.counters } ∧
        Counted s t Ctr.RADIO_RX_UNASSOCIATED) ∧
      (∀ i, isGroupAddr src = false → s.lookup src = some i → (s.client i).state.present = true →
        (s.client i).attach = .radio r →
        let heard : Client := { s.client i with heardAt := s.runNow }
        let dropped : State :=
          { s with radios := s.heardOn r, counters := t.counters, clients := s.clients.set i heard }
        (s.cfg.priority heard.cls = 0 → t = dropped ∧ Counted s t Ctr.CLIENT_RX_BARRED) ∧
        (0 < s.cfg.priority heard.cls → s.cfg.uplinkLimit < heard.blocks + b →
          t = dropped ∧ Counted s t Ctr.RADIO_RX_LIMIT_DROP) ∧
        (0 < s.cfg.priority heard.cls → heard.blocks + b ≤ s.cfg.uplinkLimit →
          s.mem.uplinkFree.length < b → t = dropped ∧ Counted s t Ctr.POOL_UPLINK_SHORT) ∧
        (0 < s.cfg.priority heard.cls → heard.blocks + b ≤ s.cfg.uplinkLimit →
          b ≤ s.mem.uplinkFree.length →
          let queued : State := { s with
            radios := s.heardOn r
            clients := s.clients.set i { heard with queue := heard.queue ++
              [{ frame := { blocks := s.mem.uplinkFree.take b, data := data }, cls := heard.cls, owner := i }] }
            mem := { s.mem with uplinkFree := s.mem.uplinkFree.drop b } }
          Counted s t Ctr.RADIO_RX_QUEUED ∧ t.radios = s.heardOn r ∧
          (s.opportunity = false → t = { queued with counters := t.counters }) ∧
          (s.opportunity = true → s.line.queue ≠ [] →
            t = { queued with counters := t.counters, line := t.line } ∧ Sent s t s.line.queue) ∧
          (s.opportunity = true → s.line.queue = [] → s.sched.credit ≤ 0 →
            t = { queued with counters := t.counters } ∧ Counted s t Ctr.SCHED_NO_CREDIT) ∧
          (∀ ph j rec rest, s.opportunity = true → s.line.queue = [] → 0 < s.sched.credit →
            queued.Served ph j → (queued.client j).queue = rec :: rest →
            Handover queued t ph j rec rest)))

/-- A JOIN admits an unknown address with its claim, is refused in a full bucket, refreshes, moves or returns a
client of this carriage; a LEAVE takes this radio's client to LEAVING or FREE, and any other is a stray.
Choices of the model in it: log entry 6. (From R49, R53, R55, R59, R61, R62, R63, R64, R71, R72, R146.) -/
def Obligations.JoinsAndLeaves : Prop :=
  ∀ (s : State) (r : Fin 6) (bytes : List Byte) (a : Addr),
    (∀ k, s.RadioTakes r bytes (.join a k) →
      ∃ t, exec (.radioMessageArrival r bytes) s = .next t ∧ t.outer = s.outer ∧
        Counted s t Ctr.RADIO_RX_JOIN ∧ t.radios = s.heardOn r ∧ t.sched = s.sched ∧ t.tally = s.tally ∧
        t.mem = s.mem ∧
        (∀ i, s.lookup a = none → i ∈ waysOf a → (s.client i).state = .free →
          (∀ j ∈ waysOf a, j.val < i.val → (s.client j).state ≠ .free) →
          t.client i =
            { addr := a, state := .probation, tenancy := (s.client i).tenancy + 1, attach := .radio r
              cls := s.cfg.netClasses[k], net := some k, claimNum := s.claimSeq + 1, queue := [], quota := 0
              used := 0, charged := false, heardAt := s.runNow
              timer := some (s.now + Config.msTicks s.cfg.holdOffMs), flapCount := 0, flapStart := none
              pendingJoin := none } ∧
          OtherClients s t i ∧ t.claimSeq = s.claimSeq + 1 ∧ t.seats = s.seats ∧
          Offered s t (.claim a (s.claimSeq + 1) s.cfg.netClasses[k]) ∧
          Posted s t (.clientAdded i ((s.client i).tenancy + 1) a (.radio r)) ∧
          Counted s t Ctr.CLIENT_ADMITTED ∧ Counted s t Ctr.CLAIM_POSTED) ∧
        (s.lookup a = none → (∀ j ∈ waysOf a, (s.client j).state ≠ .free) →
          t.clients = s.clients ∧ t.line = s.line ∧ t.seats = s.seats ∧ t.claimSeq = s.claimSeq ∧
          Counted s t Ctr.CLIENT_NO_ROOM ∧ Raised s t Alert.CLIENT_TABLE_FULL ∧
          Posted s t (.tableFull a (.radio r))) ∧
        (∀ i, s.lookup a = some i →
          ((s.client i).state = .probation ∨ (s.client i).state = .localHeld) →
          (s.client i).attach = .radio r →
          t = { s with counters := t.counters, radios := t.radios
                       clients := s.clients.set i { s.client i with net := some k, heardAt := s.runNow } }) ∧
        (∀ i, s.lookup a = some i →
          (((s.client i).state = .probation ∨ (s.client i).state = .localHeld) ∧
            (s.client i).attach ≠ .radio r ∨ (s.client i).state = .leaving) →
          t.clients = s.clients.set i { s.client i with
            attach := .radio r, net := some k, heardAt := s.runNow
            state := if (s.client i).state = .leaving then .localHeld else (s.client i).state
            timer := if (s.client i).state = .leaving then none else (s.client i).timer } ∧
          t.line = s.line ∧ t.claimSeq = s.claimSeq ∧
          (∀ p, (s.client i).attach ≠ .seat p → t.seat p = s.seat p) ∧
          Posted s t (.attachmentChanged i (s.client i).tenancy (s.client i).addr (.radio r)) ∧
          Counted s t Ctr.CLIENT_RETURNS (if (s.client i).state = .leaving then 1 else 0) ∧
          Counted s t Ctr.CLIENT_MOVES (if (s.client i).state = .leaving then 0 else 1))) ∧
    (∀ timedOut, s.RadioTakes r bytes (.leave a timedOut) →
      ∃ t, exec (.radioMessageArrival r bytes) s = .next t ∧ t.outer = s.outer ∧
        Counted s t Ctr.RADIO_LEAVE_TIMEOUT (if timedOut = true then 1 else 0) ∧
        Counted s t Ctr.RADIO_LEAVE_LEFT (if timedOut = true then 0 else 1) ∧
        (∀ i, s.lookup a = some i → (s.client i).attach = .radio r →
          ((s.client i).state = .probation ∨ (s.client i).state = .localHeld) →
          t = { s with counters := t.counters, radios := s.heardOn r, alerts := t.alerts
                       notices := t.notices
                       clients := s.clients.set i ((s.client i).afterLoss s.now) } ∧
          Counted s t Ctr.CLIENT_LEAVING ∧
          ((s.client i).queue = [] →
            Posted s t (.clientLeft i (s.client i).tenancy (s.client i).addr (.radio r) .leave))) ∧
        ((s.lookup a = none ∨ ∃ i, s.lookup a = some i ∧ ((s.client i).attach ≠ .radio r ∨
            (s.client i).state = .leaving ∨ (s.client i).state = .moved)) →
          t = { s with counters := t.counters, radios := s.heardOn r } ∧
          Counted s t Ctr.CLIENT_LEAVE_STRAY))

/-- A link goes from UP to DOWN at its liveness expiry and at a loss of its signal: its message cut off, its
queue and its DROPs discarded and counted, its clients' attachment lost, RADIO_DOWN raised; in DOWN and HELD
the loss changes the input alone. That a DROP cut off counts as lost is deduced (log entry 12). Choices of
the model in it: log entries 2, 4, 11, 12. (From R61, R98, R143.) -/
def Obligations.RadioLinkGoesDown : Prop :=
  ∀ (s : State) (r : Fin 6) (c : Instr) (now : Nat) (signal : Bool) (counter : Counter),
    (s.radio r).state = .up →
    (c = .livenessExpiry r ∧ (∃ d, (s.radio r).liveness = some d ∧ s.Timely c d ∧ now = max s.now d) ∧
        signal = (s.radio r).signal ∧ counter = Ctr.RADIO_DOWN_SILENT ∨
      c = .lossOfLinkSignal r ∧ now = s.now ∧ signal = false ∧ counter = Ctr.RADIO_DOWN_SIGNAL) →
    (∀ u : State, (u.radio r).state ≠ .up →
      exec (.livenessExpiry r) u = .next (u.without (.livenessExpiry r)) ∧
      exec (.lossOfLinkSignal r) u = .next { u with
        radios := u.radios.set r { u.radio r with signal := false } }) ∧
    ∃ t, exec c s = .next t ∧ t.now = now ∧ OtherRadios s t r ∧
      t.radio r = { s.radio r with
        state := .down, liveness := none, tx := .idle, queue := [], drops := [], signal := signal } ∧
      t.ctl = s.ctl ∧ t.line = s.line ∧ t.sched = s.sched ∧ t.tally = s.tally ∧ t.seats = s.seats ∧
      t.claimSeq = s.claimSeq ∧ t.pending = s.pending ∧
      t.raised = (if c = .livenessExpiry r then s.raised.erase c else s.raised) ∧
        t.mem.uplinkFree = s.mem.uplinkFree ∧
      (∀ i, t.client i =
        if (s.client i).attach = .radio r then (s.client i).afterLoss now else s.client i) ∧
      Raised s t Alert.RADIO_DOWN ∧ Counted s t counter ∧
      Counted s t Ctr.RADIO_EGRESS_FLUSHED (s.radio r).queue.length ∧
      ((s.radio r).tx = .sendingData → Counted s t Ctr.RADIO_TX_CUT ∧
        Counted s t Ctr.RADIO_DROP_LOST (s.radio r).drops.length) ∧
      (∀ a, (s.radio r).tx = .sendingDrop a → Counted s t Ctr.RADIO_TX_CUT 0 ∧
        Counted s t Ctr.RADIO_DROP_LOST ((s.radio r).drops.length + 1)) ∧
      ((s.radio r).tx = .idle → Counted s t Ctr.RADIO_TX_CUT 0 ∧
        Counted s t Ctr.RADIO_DROP_LOST (s.radio r).drops.length)

/-- The end of a DATA and of a DROP message, and what an idle transmit side in UP starts next: the oldest DROP
whatever the credit, else with credit the egress queue. Heads that fail the load degrade (a group frame or
one of class OPEN, toward a radio of load 12 or more) or the stale check end their positions and are counted
in RADIO_DEGRADE_DROP or DOWN_STALE, and the first that passes is sent. The credit is B less what is
outstanding, and 0 where more than B is. Choices of the model in it: log entries 4, 9. (From R98, R144,
R148, R149, R150, R151, R159.) -/
def Obligations.RadioTransmitSideEnds : Prop :=
  ∀ (s : State) (r : Fin 6),
    let q := s.radio r
    let degraded (x : EgressPos) : Bool := 12 ≤ q.load && x.degradable
    (q.outstanding = (q.sent - q.taken).toNat ∧ q.credit ≤ q.buffer ∧
      (q.outstanding ≤ q.buffer → q.credit + q.outstanding = q.buffer) ∧
      (q.buffer < q.outstanding → q.credit = 0)) ∧
    ((∀ f, (EgressPos.group f).degradable = true) ∧
      ∀ u : UnicastRec, (EgressPos.unicast u).degradable = true ↔ u.cls = .openNet) ∧
    (q.tx = .idle → exec (.radioMessageCompletion r) s = .next s) ∧
    (∀ pos rest, q.tx = .sendingData → q.queue = pos :: rest →
      ∃ t, exec (.radioMessageCompletion r) s = .next t ∧ Counted s t Ctr.RADIO_TX_FRAMES ∧
        OtherRadios s t r ∧ t.outer = s.outer ∧ t.clients = s.clients ∧ t.seats = s.seats ∧
        t.line = s.line ∧
        (∀ a more, q.state = .up → q.drops = a :: more →
          t = { s.endPosition pos with
            counters := t.counters
            radios := s.radios.set r { q with queue := rest, drops := more, tx := .sendingDrop a } }) ∧
        (q.drops = [] → rest = [] ∨ q.credit = 0 →
          t = { s.endPosition pos with
            counters := t.counters
            radios := s.radios.set r { q with queue := rest, tx := .idle } }) ∧
        (∀ old tail, q.state = .up → q.drops = [] → rest = old ++ tail → 0 < q.credit →
          (∀ x ∈ old, degraded x = true ∨ s.stale x = true) →
          (∀ nxt more, tail = nxt :: more → degraded nxt = false ∧ s.stale nxt = false) →
          t = { List.foldl State.endPosition s (pos :: old) with
            counters := t.counters
            radios := s.radios.set r { q with
              queue := tail, tx := if tail = [] then .idle else .sendingData
              sent := if tail = [] then q.sent else q.sent + 1 } } ∧
          Counted s t Ctr.RADIO_DEGRADE_DROP (old.filter degraded).length ∧
          Counted s t Ctr.DOWN_STALE (old.filter (fun x => !degraded x)).length)) ∧
    (∀ a, q.tx = .sendingDrop a → q.drops = [] → q.queue = [] ∨ q.credit = 0 →
      ∃ t, exec (.radioMessageCompletion r) s = .next t ∧ Counted s t Ctr.RADIO_TX_DROP ∧
        t = { s with counters := t.counters, radios := s.radios.set r { q with tx := .idle } })

/-! ## The client table's timers -/

/-- The expiries of the hold-off, the drain, the idle limit and the tombstone of an entry; each finds its entry
in its own state, and in any other it changes nothing. The freeing of a seat client lets its port judge its
pause state: with PAUSING set it releases where every other client is below L, and stays as it was where one
is not. Choices of the model in it: log entries 2, 4, 9, 15. (From R51, R52, R63, R65, R66, R71, R72, R84,
R127.) -/
def Obligations.ClientTimersExpire : Prop :=
  ∀ (s : State) (i : Fin 256) (d : Nat),
    let c := s.client i
    ((c.state ≠ .probation → exec (.holdOffExpiry i) s = .next (s.without (.holdOffExpiry i))) ∧
      (c.state ≠ .leaving → exec (.drainExpiry i) s = .next (s.without (.drainExpiry i))) ∧
      (c.state ≠ .localHeld ∨ s.op ≠ .running →
        exec (.idleExpiry i) s = .next (s.without (.idleExpiry i))) ∧
      (c.state ≠ .moved → exec (.tombstoneExpiry i) s = .next (s.without (.tombstoneExpiry i)))) ∧
    (c.state = .probation → c.timer = some d → s.Timely (.holdOffExpiry i) d →
      ∃ t, exec (.holdOffExpiry i) s = .next t ∧ Counted s t Ctr.CLAIM_HOLDOFF_LOCAL ∧
        t = { s.atTime (.holdOffExpiry i) d with
          counters := t.counters
          clients := s.clients.set i { c with
            state := .localHeld, timer := none, heardAt := (s.atTime (.holdOffExpiry i) d).runNow } }) ∧
    (∀ cmd reason counter due,
      (cmd = .drainExpiry i ∧ c.state = .leaving ∧ c.timer = some due ∧ reason = LeftReason.drain ∧
          counter = Ctr.CLIENT_LEFT_DRAIN ∨
        cmd = .idleExpiry i ∧ c.state = .localHeld ∧ s.op = .running ∧
          due = s.now + (Config.secTicks s.cfg.idleLimitS - (s.runNow - c.heardAt)) ∧
          reason = LeftReason.idle ∧ counter = Ctr.CLIENT_IDLE_FREED) →
      s.Timely cmd due →
      ∃ t, exec cmd s = .next t ∧ t.now = max s.now due ∧ t.client i = c.afterFreeing ∧ OtherClients s t i ∧
        t.mem.uplinkFree = (c.queue.map (·.frame.blocks)).flatten ++ s.mem.uplinkFree ∧
        t.mem.downlinkFree = s.mem.downlinkFree ∧ t.line = s.line ∧ t.sched = s.sched ∧
        t.tally = s.tally ∧ t.radios = s.radios ∧ t.claimSeq = s.claimSeq ∧ t.ctl = s.ctl ∧
        t.pending = s.pending ∧ t.raised = s.raised.erase cmd ∧
        (∀ p, c.attach ≠ .seat p ∨ (s.seat p).state ≠ .up → t.seat p = s.seat p) ∧
        (∀ p, c.attach = .seat p → (s.seat p).state = .up →
          let high := max (s.cfg.uplinkLimit - 16) (s.cfg.uplinkLimit / 2)
          let low := s.cfg.uplinkLimit / 2
          ((s.seat p).pausing = true → (∀ j, j ≠ i → s.ClientOf p j → (s.client j).blocks < low) →
            t.seat p = ({ s.seat p with pausing := false, refreshTimer := none } : SeatPort).pauseMade 0) ∧
          ((s.seat p).pausing = true → (∃ j, j ≠ i ∧ s.ClientOf p j ∧ low ≤ (s.client j).blocks) →
            t.seat p = s.seat p) ∧
          ((s.seat p).pausing = false → (∀ j, j ≠ i → s.ClientOf p j → (s.client j).blocks < high) →
            t.seat p = s.seat p)) ∧ Counted s t counter ∧
        Counted s t Ctr.CLIENT_QUEUE_DISCARD c.queue.length ∧
        Posted s t (.clientLeft i c.tenancy c.addr c.attach reason)) ∧
    (c.state = .moved → c.timer = some d → c.queue = [] →
      s.Timely (.tombstoneExpiry i) d →
      (c.pendingJoin = none →
        ∃ t, exec (.tombstoneExpiry i) s = .next t ∧ Counted s t Ctr.CLAIM_TOMBSTONE_FREED ∧
          t = { s.atTime (.tombstoneExpiry i) d with
            counters := t.counters, clients := s.clients.set i c.afterFreeing }) ∧
      (∀ r k, c.pendingJoin = some (r, k) → (s.radio r).state ≠ .up →
        ∃ t, exec (.tombstoneExpiry i) s = .next t ∧ Counted s t Ctr.CLAIM_PENDING_LAPSED ∧
          t = { s.atTime (.tombstoneExpiry i) d with
            counters := t.counters, clients := s.clients.set i c.afterFreeing }) ∧
      (∀ r k, c.pendingJoin = some (r, k) → (s.radio r).state = .up →
        ∃ t, exec (.tombstoneExpiry i) s = .next t ∧ Counted s t Ctr.CLAIM_PENDING_TAKEN ∧
          t = { s.atTime (.tombstoneExpiry i) d with
            counters := t.counters, alerts := t.alerts, notices := t.notices, line := t.line
            claimSeq := s.claimSeq + 1
            clients := s.clients.set i { c with
              state := .probation, attach := .radio r, net := some k, cls := s.cfg.netClasses[k]
              heardAt := (s.atTime (.tombstoneExpiry i) d).runNow
              timer := some (max s.now d + Config.msTicks s.cfg.holdOffMs)
              claimNum := s.claimSeq + 1, pendingJoin := none, flapCount := 1
              flapStart := some (max s.now d) } } ∧
          Offered s t (.claim c.addr (s.claimSeq + 1) s.cfg.netClasses[k]) ∧
          Posted s t (.clientAdded i c.tenancy c.addr (.radio r)) ∧ Counted s t Ctr.CLAIM_POSTED))

/-! ## The management port -/

/-- The words of a transaction name its command by bits 15 to 8 of word 0 and the operands after it: bits 7 to 0
and words beyond the last operand are ignored, a release of select before the last operand takes nothing, a
code outside the command list is unknown, and RESTART acts when its own transaction ends. In STARTING and
LOADING the commands but three answer NOT_READY with no effect; an unknown code answers BAD_INDEX and is
counted, and an abandoned transaction is counted, in every operating state; and in reset the port takes no
command. That an abandoned transaction leaves the last response standing is the model's choice (log entry
13). Choices of the model in it: log entries 13, 31. (From R162, R168, R169,
11_management_port_and_alerts.md, 11.1.) -/
def Obligations.TransactionsAreTakenOrRejected : Prop :=
  (∀ (low : Byte) (a b c : Word) (more : List Word),
    let word (code : Byte) : Word := code ++ low
    transactionCommand (word 0x01 :: more) = .readStatus ∧
    transactionCommand (word 0x02 :: a :: more) = .readCounter a ∧
    transactionCommand (word 0x03 :: more) = .clearCounters ∧
    transactionCommand (word 0x04 :: a :: more) = .readClient a ∧
    transactionCommand (word 0x05 :: a :: more) = .readPeer a ∧
    transactionCommand (word 0x06 :: more) = .peekNotice ∧
    transactionCommand (word 0x07 :: more) = .popNotice ∧
    transactionCommand (word 0x08 :: a :: b :: c :: more) = .promote a b c ∧
    transactionCommand (word 0x09 :: a :: b :: more) = .evict a b ∧
    transactionCommand (word 0x0A :: more) = .readAlert ∧
    transactionCommand (word 0x0B :: a :: b :: more) = .ackAlert a b ∧
    transactionCommand (word 0x0C :: a :: more) = .maskSet a ∧
    transactionCommand (word 0x0D :: a :: more) = .maskClear a ∧
    transactionCommand (word 0x0E :: more) = .readResetCause ∧
    transactionCommand (word 0x0F :: a :: b :: more) = .loadImageWord a b ∧
    transactionCommand (word 0x10 :: more) = .start ∧ transactionCommand (word 0x11 :: more) = .restart ∧
    (∀ code ∈ [0x02, 0x04, 0x05, 0x08, 0x09, 0x0B, 0x0C, 0x0D, 0x0F],
      transactionCommand [word code] = .transactionAbandoned) ∧
    (∀ code ∈ [0x08, 0x09, 0x0B, 0x0F], transactionCommand [word code, a] = .transactionAbandoned) ∧
    transactionCommand [word 0x08, a, b] = .transactionAbandoned ∧
    (∀ code : Byte, code = 0 ∨ 0x12 ≤ code.toNat →
      transactionCommand (word code :: more) = .unknownCommand code)) ∧
  (∀ (s : State) (words : List Word),
    s.transact words = { s with pending := s.pending ++ transactionCommand words ::
      (if transactionCommand words = .restart then [.restartReset] else []) }) ∧
  ∀ s : State,
    let rejected : State := { s with
      counters := s.counters.set Ctr.MGMT_REJECTED (satAdd s.counters[Ctr.MGMT_REJECTED] 1) }
    (∀ c, answersNotReady c → s.op = .starting ∨ s.op = .loading →
      exec c s = .next { s with response := [1] }) ∧
    (∀ code, s.op ≠ .inReset → exec (.unknownCommand code) s = .next { rejected with response := [2] }) ∧
    (s.op ≠ .inReset → exec .transactionAbandoned s = .next rejected) ∧
    (∀ c, answersNotReady c ∨ c = .readStatus ∨ c = .readResetCause ∨ c = .transactionAbandoned ∨
        (∃ code, c = .unknownCommand code) →
      s.op = .inReset → exec c s = .next s ∧ ∀ k, s.mgmtOut k = 65535)

/-- The commands that read answer OK with what the part holds, word by word, or the result code of the check
that fails, and change nothing but the response; READ RESET CAUSE also clears the four flags it reports.
That milliseconds left are rounded down is the model's choice (log entry 14). Choices of the model in it:
log entries 14, 23, 33. (From R24, R60, R101, R162, R169, R171, R172, 11_management_port_and_alerts.md,
11.1.) -/
def Obligations.ReadingsReturnTheState : Prop :=
  ∀ s : State,
    let w (n : Nat) : Word := BitVec.ofNat 16 n
    let flag (b : Bool) : Nat := if b = true then 1 else 0
    let addr (a : Addr) : List Word := [a.extractLsb' 32 16, a.extractLsb' 16 16, a.extractLsb' 0 16]
    let left (due : Nat) : Nat := (due - s.now) / 12500
    let credit := BitVec.ofInt 32 s.sched.credit
    let outcome : Word := match s.ctl.cause.outcome with
      | .none => 0 | .good => 1 | .clamped => 2 | .badCheck => 3 | .absent => 4
    (s.op = .starting ∨ s.op = .loading →
      exec .readStatus s = .next { s with response :=
        [0, if s.op = .starting then 0 else 1, 0, 0, 0, 0, 0, 0, 1280, 768, 0, 0] }) ∧
    (s.op ≠ .inReset →
      exec .readResetCause s = .next { s with
        ctl := { s.ctl with cause := { s.ctl.cause with
          power := false, dip := false, pin := false, restart := false } }
        response := [0, w (flag s.ctl.cause.power + 2 * flag s.ctl.cause.dip + 4 * flag s.ctl.cause.pin +
            8 * flag s.ctl.cause.restart), outcome] }) ∧
    (s.TakesCommands →
      exec .readStatus s = .next { s with response :=
        [0, if s.op = .unconfigured then 2 else if s.op = .running then 3 else 4, w s.cfg.station,
         w s.tally.lastA, w s.tally.lastD, w s.tally.lastW, credit.extractLsb' 16 16,
         credit.extractLsb' 0 16, w s.mem.uplinkFree.length, w s.mem.downlinkFree.length,
         w s.tally.peers.length, w (s.clients.toList.filter (·.state.present)).length] } ∧
      (∀ n : Word, exec (.readCounter n) s = .next { s with response :=
        if h : n.toNat < 118 then
          [0, (s.counters[n.toNat]).extractLsb' 16 16, (s.counters[n.toNat]).extractLsb' 0 16]
        else [2] }) ∧
      (∀ index : Word, 256 ≤ index.toNat → exec (.readClient index) s = .next { s with response := [2] }) ∧
      (∀ (index : Word) (i : Fin 256), index.toNat = i.val →
        let c := s.client i
        let state : Word := match c.state with
          | .free => 0 | .probation => 1 | .localHeld => 2 | .leaving => 3 | .moved => 4
        let attach : Word := match c.attach with
          | .seat p => w p.val
          | .radio r => w (32 + r.val)
        let net : Word := match c.net with
          | none => 65535
          | some k => w k.val
        let timer : Word := if c.timer = none then 0 else match c.state with
          | .probation => 1 | .leaving => 2 | .moved => 3 | .free => 0 | .localHeld => 0
        let ms : Nat := match c.timer with
          | none => 0
          | some due => left due
        let join : Word := match c.pendingJoin with
          | none => 65535
          | some (r, k) => w (k.val * 256 + 32 + r.val)
        exec (.readClient index) s = .next { s with response :=
          [0, state, w c.tenancy.toNat] ++ (addr c.addr) ++
          [attach, w c.cls.num.val, net, w c.claimNum.toNat, w c.queue.length,
           w (c.queue.map (·.frame.blocks.length)).sum, w c.quota, w c.used, w (flag c.charged),
           w (min 3600 ((s.runNow - c.heardAt) / 12500000)), timer, w ms, w c.flapCount,
           w (flag (s.windowOpen i)), join] }) ∧
      (∀ position : Word, s.tally.peers.length ≤ position.toNat →
        exec (.readPeer position) s = .next { s with response := [2] }) ∧
      (∀ (position : Word) (q : Peer), s.tally.peers[position.toNat]? = some q →
        exec (.readPeer position) s = .next { s with response :=
          [0, w q.station, w q.period, w q.lastSeq.toNat, w q.d, w q.w, w q.a, w q.clients,
           w (flag q.hold + 2 * flag q.conflict), w q.lost, w (left q.due)] }) ∧
      (s.notices = [] → exec .peekNotice s = .next { s with response := [5] }) ∧
      (∀ n rest, s.notices = n :: rest →
        exec .peekNotice s = .next { s with response := 0 :: n.words }))

/-- The alert sources: what READ ALERT returns, what MASK SET and MASK CLEAR change, and the ALERT_N pin, which
is low exactly while a source asserts it and high while the part is held in reset. Choices of the model in
it: log entry 1. (From R174, R176.) -/
def Obligations.AlertsAreReadAndMasked : Prop :=
  ∀ s : State,
    (s.alertN = false ↔ ∃ a, s.Asserts a) ∧
    (s.op = .inReset → s.StartCondition → (∀ a, (s.alert a).pending = false) ∧ s.alertN = true) ∧
    (s.TakesCommands →
      (∀ a : AlertNo, s.Asserts a →
        (∀ b, s.Asserts b → (s.alert b).priority < (s.alert a).priority ∨
          (s.alert b).priority = (s.alert a).priority ∧ a.val ≤ b.val) →
        exec .readAlert s = .next { s with
          response := [0, BitVec.ofNat 16 a.val, BitVec.ofNat 16 (s.alert a).count.toNat] }) ∧
      ((∀ a, ¬ s.Asserts a) → exec .readAlert s = .next { s with response := [0, 15, 0] }) ∧
      (∀ sources : Word,
        (∃ t, exec (.maskSet sources) s = .next t ∧ t = { s with alerts := t.alerts, response := [0] } ∧
          ∀ a : AlertNo, t.alert a =
            { s.alert a with mask := (s.alert a).mask || sources.getLsbD a.val }) ∧
        (∃ t, exec (.maskClear sources) s = .next t ∧ t = { s with alerts := t.alerts, response := [0] } ∧
          ∀ a : AlertNo, t.alert a =
            { s.alert a with mask := (s.alert a).mask && !sources.getLsbD a.val })))

/-- The commands that set: the counters cleared, the oldest notice popped, an alert acknowledged by its count,
an image word loaded, RESTART answered; each with the result code of the check that fails. Choices of the
model in it: log entry 25. (From R162, R165, R169, R171, R172, R175.) -/
def Obligations.CommandsThatSet : Prop :=
  ∀ s : State, s.TakesCommands →
    exec .clearCounters s = .next { s with counters := Vector.replicate 118 0, response := [0] } ∧
    (s.notices = [] → exec .popNotice s = .next { s with response := [5] }) ∧
    (∀ n rest, s.notices = n :: rest →
      exec .popNotice s = .next { s with notices := rest, response := 0 :: n.words }) ∧
    (∀ source count : Word, 12 ≤ source.toNat →
      exec (.ackAlert source count) s = .next { s with response := [2] }) ∧
    (∀ (source count : Word) (a : AlertNo), source.toNat = a.val →
      (count.toNat ≠ (s.alert a).count.toNat →
        exec (.ackAlert source count) s = .next { s with response := [4] }) ∧
      (count.toNat = (s.alert a).count.toNat →
        exec (.ackAlert source count) s = .next { s with
          alerts := s.alerts.set a { s.alert a with pending := false }, response := [0] })) ∧
    (∀ n value : Word,
      (s.op ≠ .unconfigured → exec (.loadImageWord n value) s = .next { s with response := [3] }) ∧
      (s.op = .unconfigured → 80 ≤ n.toNat →
        exec (.loadImageWord n value) s = .next { s with response := [2] }) ∧
      (∀ h : n.toNat < 80, s.op = .unconfigured → exec (.loadImageWord n value) s = .next { s with
        ctl := { s.ctl with image := s.ctl.image.set n.toNat value h }, response := [0] })) ∧
    (s.op ≠ .unconfigured → exec .start s = .next { s with response := [3] }) ∧
    (s.op = .unconfigured → exec .restart s = .next { s with response := [3] }) ∧
    (s.op ≠ .unconfigured → exec .restart s = .next { s with restartArmed := true, response := [0] })

/-- PROMOTE sets the class of a present entry named by index and tenancy, and into a class of priority 0 frees
its queue; EVICT frees an entry and hands a radio client's address to its link as a DROP. Each answers with
the result code of the first check that fails. Choices of the model in it: log entry 9. (From R51, R52, R63,
R67, R68, R151.) -/
def Obligations.PromoteAndEvict : Prop :=
  ∀ s : State, s.TakesCommands →
    (∀ index tenancy cls : Word,
      (256 ≤ index.toNat → exec (.evict index tenancy) s = .next { s with response := [2] }) ∧
      (256 ≤ index.toNat ∨ 4 ≤ cls.toNat →
        exec (.promote index tenancy cls) s = .next { s with response := [2] })) ∧
    ∀ (i : Fin 256) (index tenancy : Word), index.toNat = i.val →
      let c := s.client i
      (∀ (cls : Word) (k : PClass), cls.toNat = k.num.val →
        (tenancy.toNat ≠ c.tenancy.toNat →
          exec (.promote index tenancy cls) s = .next { s with response := [4] }) ∧
        (tenancy.toNat = c.tenancy.toNat → c.state.present = false →
          exec (.promote index tenancy cls) s = .next { s with response := [3] }) ∧
        (tenancy.toNat = c.tenancy.toNat → c.state.present = true →
          ∃ t, exec (.promote index tenancy cls) s = .next t ∧ t.response = [0] ∧
            Counted s t Ctr.CLIENT_PROMOTED ∧ (t.client i).cls = k ∧
            (c.cls = k → t = { s with counters := t.counters, response := [0] }) ∧
            (c.cls ≠ k → s.opportunity = false → 0 < s.cfg.priority k ∨ c.queue = [] →
              t = { s with counters := t.counters, response := [0]
                           clients := s.clients.set i { c with cls := k } }) ∧
            (c.cls ≠ k → s.opportunity = false → s.cfg.priority k = 0 → c.queue ≠ [] →
              t.mem.uplinkFree = (c.queue.map (·.frame.blocks)).flatten ++ s.mem.uplinkFree ∧
              OtherClients s t i ∧ t.line = s.line ∧ t.sched = s.sched ∧ t.radios = s.radios ∧
              Counted s t Ctr.CLIENT_QUEUE_DISCARD c.queue.length ∧
              (c.state ≠ .leaving → t.client i = { c with cls := k, queue := [] }) ∧
              (c.state = .leaving → t.client i = ({ c with cls := k } : Client).afterFreeing ∧
                Counted s t Ctr.CLIENT_LEFT_LEAVE ∧
                Posted s t (.clientLeft i c.tenancy c.addr c.attach .leave))))) ∧
      (tenancy.toNat ≠ c.tenancy.toNat →
        exec (.evict index tenancy) s = .next { s with response := [4] }) ∧
      (tenancy.toNat = c.tenancy.toNat → c.state = .free →
        exec (.evict index tenancy) s = .next { s with response := [3] }) ∧
      (tenancy.toNat = c.tenancy.toNat → c.state ≠ .free →
        ∃ t, exec (.evict index tenancy) s = .next t ∧ t.response = [0] ∧ t.client i = c.afterFreeing ∧
          OtherClients s t i ∧ t.line = s.line ∧ t.sched = s.sched ∧ t.tally = s.tally ∧
          t.claimSeq = s.claimSeq ∧ t.ctl = s.ctl ∧
          t.mem.uplinkFree = (c.queue.map (·.frame.blocks)).flatten ++ s.mem.uplinkFree ∧
          Counted s t Ctr.CLIENT_EVICTED ∧
          Posted s t (.clientLeft i c.tenancy c.addr c.attach .evict) ∧
          (∀ p, c.attach ≠ .seat p → t.seat p = s.seat p) ∧
          ((c.state = .moved ∨ ∃ p, c.attach = .seat p) → t.radios = s.radios) ∧
          (∀ r, c.state ≠ .moved → c.attach = .radio r → OtherRadios s t r ∧
            ((s.radio r).state ≠ .up ∨ 8 ≤ (s.radio r).drops.length →
              t.radio r = s.radio r ∧ Counted s t Ctr.RADIO_DROP_LOST) ∧
            ((s.radio r).state = .up → (s.radio r).drops.length < 8 → (s.radio r).tx ≠ .idle →
              t.radio r = { s.radio r with drops := (s.radio r).drops ++ [c.addr] }) ∧
            ((s.radio r).state = .up → (s.radio r).drops = [] → (s.radio r).tx = .idle →
              t.radio r = { s.radio r with tx := .sendingDrop c.addr })))

/-! ## Laws that every step keeps -/

/-- Every step keeps the settings in their ranges and the peer table lawful, and the mark of a RESTART answered
OK (the model's, log entry 25) set in RUNNING and HOLD only. Choices of the model in it: log entry 25. (From
R24, R164, 10_start_configuration_image_and_hold.md, 10.4.) -/
def Obligations.StepKeepsSettingsAndPeersLawful : Prop :=
  ∀ s t : State, s.SettingsLawful → step s = .next t →
    t.SettingsLawful ∧ (s.PeersLawful → t.PeersLawful)

/-- Every step keeps the line interface lawful and the queues within their capacities. Choices of the model in
it: log entries 5, 21. (From R8, R9, R10, R14, R16, R17, R19, R151, R170.) -/
def Obligations.StepKeepsLineLawful : Prop :=
  ∀ s t : State, step s = .next t → (s.Bounded → t.Bounded) ∧ (s.LineLawful → t.LineLawful)

/-- Every step keeps the ports and links lawful. (From R121, R131, R132, R136, R139, R143, R147, R152.) -/
def Obligations.StepKeepsLinksLawful : Prop :=
  ∀ s t : State, s.LinksLawful → step s = .next t → t.LinksLawful

/-- Every step keeps the UPLINK pool whole: each block free, queued or in the slot, once. Choices of the model
in it: log entry 9. (From R50, R91, R92, R94, R95.) -/
def Obligations.StepKeepsUplinkLawful : Prop :=
  ∀ s t : State, s.LinksLawful → s.UplinkLawful → step s = .next t → t.UplinkLawful

/-- Every step keeps the DOWNLINK pool whole and each group record's count that of its positions. Choices of the
model in it: log entry 9. (From R91, R92, R98, R100.) -/
def Obligations.StepKeepsDownlinkLawful : Prop :=
  ∀ s t : State, s.LinksLawful → s.DownlinkLawful → step s = .next t → t.DownlinkLawful

/-- Every step keeps the client table lawful, no address standing twice and each in its bucket, and keeps the
credit within its bounds. (From R47, R48, R49, R72, R82, R85, R114, R116.) -/
def Obligations.StepKeepsTableAndCreditLawful : Prop :=
  ∀ s t : State, step s = .next t →
    (s.TableLawful → t.TableLawful) ∧ (s.CreditLawful → t.CreditLawful)

/-- A part held in reset keeps its start condition at every step until the reset is released. Choices of the
model in it: log entries 1, 21. (From R162, R168, R176.) -/
def Obligations.ResetHoldsTheStartCondition : Prop :=
  ∀ s t : State, (s.op = .inReset → s.StartCondition) → step s = .next t →
    t.op = .inReset → t.StartCondition

/-- The state after reset obeys every law. R90 gives how many blocks each pool has at reset; which block numbers
they are is the model's (log entry 9). Choices of the model in it: log entries 1, 9, 20, 21. (From R23, R46,
R90, R104, R121, R139, R162.) -/
def Obligations.LawsHoldAtReset : Prop :=
  State.reset.Bounded ∧ State.reset.SettingsLawful ∧ State.reset.PeersLawful ∧ State.reset.UplinkLawful ∧
  State.reset.DownlinkLawful ∧ State.reset.TableLawful ∧ State.reset.CreditLawful ∧
  State.reset.LinksLawful ∧ State.reset.LineLawful
end

