-- ==== Sys2Proof/Laws/State.lean ====
section
/-!
SUPPORT. What each basic update of the state leaves in each field, and the reading of one client entry,
seat port, radio link, alert source or counter after an update.
-/

namespace Sys2Proof.Machine

/-! ## `updClient` -/

@[simp] theorem State.updClient_pending (s : State) (i : Fin 256) (f : Client → Client) : (s.updClient i f).pending = s.pending := rfl
@[simp] theorem State.updClient_raised (s : State) (i : Fin 256) (f : Client → Client) : (s.updClient i f).raised = s.raised := rfl

@[simp] theorem State.updClient_now (s : State) (i : Fin 256) (f : Client → Client) : (s.updClient i f).now = s.now := rfl

@[simp] theorem State.updClient_runNow (s : State) (i : Fin 256) (f : Client → Client) : (s.updClient i f).runNow = s.runNow := rfl

@[simp] theorem State.updClient_draws (s : State) (i : Fin 256) (f : Client → Client) : (s.updClient i f).draws = s.draws := rfl

@[simp] theorem State.updClient_ctl (s : State) (i : Fin 256) (f : Client → Client) : (s.updClient i f).ctl = s.ctl := rfl

@[simp] theorem State.updClient_line (s : State) (i : Fin 256) (f : Client → Client) : (s.updClient i f).line = s.line := rfl

@[simp] theorem State.updClient_tally (s : State) (i : Fin 256) (f : Client → Client) : (s.updClient i f).tally = s.tally := rfl

@[simp] theorem State.updClient_clients (s : State) (i : Fin 256) (f : Client → Client) :
    (s.updClient i f).clients = s.clients.set i (f (s.client i)) := rfl

@[simp] theorem State.updClient_claimSeq (s : State) (i : Fin 256) (f : Client → Client) : (s.updClient i f).claimSeq = s.claimSeq := rfl

@[simp] theorem State.updClient_mem (s : State) (i : Fin 256) (f : Client → Client) : (s.updClient i f).mem = s.mem := rfl

@[simp] theorem State.updClient_sched (s : State) (i : Fin 256) (f : Client → Client) : (s.updClient i f).sched = s.sched := rfl

@[simp] theorem State.updClient_seats (s : State) (i : Fin 256) (f : Client → Client) : (s.updClient i f).seats = s.seats := rfl

@[simp] theorem State.updClient_scanTimer (s : State) (i : Fin 256) (f : Client → Client) :
    (s.updClient i f).scanTimer = s.scanTimer := rfl

@[simp] theorem State.updClient_radios (s : State) (i : Fin 256) (f : Client → Client) : (s.updClient i f).radios = s.radios := rfl

@[simp] theorem State.updClient_filter (s : State) (i : Fin 256) (f : Client → Client) : (s.updClient i f).filter = s.filter := rfl

@[simp] theorem State.updClient_counters (s : State) (i : Fin 256) (f : Client → Client) : (s.updClient i f).counters = s.counters := rfl

@[simp] theorem State.updClient_notices (s : State) (i : Fin 256) (f : Client → Client) : (s.updClient i f).notices = s.notices := rfl

@[simp] theorem State.updClient_alerts (s : State) (i : Fin 256) (f : Client → Client) : (s.updClient i f).alerts = s.alerts := rfl

@[simp] theorem State.updClient_response (s : State) (i : Fin 256) (f : Client → Client) : (s.updClient i f).response = s.response := rfl

@[simp] theorem State.updClient_restartArmed (s : State) (i : Fin 256) (f : Client → Client) :
    (s.updClient i f).restartArmed = s.restartArmed := rfl

@[simp] theorem State.updClient_seat (s : State) (i : Fin 256) (f : Client → Client) (q : Fin 32) :
    (s.updClient i f).seat q = s.seat q := rfl

@[simp] theorem State.updClient_radio (s : State) (i : Fin 256) (f : Client → Client) (k : Fin 6) :
    (s.updClient i f).radio k = s.radio k := rfl

@[simp] theorem State.updClient_alert (s : State) (i : Fin 256) (f : Client → Client) (b : AlertNo) :
    (s.updClient i f).alert b = s.alert b := rfl

@[simp] theorem State.updClient_op (s : State) (i : Fin 256) (f : Client → Client) : (s.updClient i f).op = s.op := rfl

@[simp] theorem State.updClient_cfg (s : State) (i : Fin 256) (f : Client → Client) : (s.updClient i f).cfg = s.cfg := rfl

@[simp] theorem State.updClient_active (s : State) (i : Fin 256) (f : Client → Client) : (s.updClient i f).active = s.active := rfl

/-! ## `updSeat` -/

@[simp] theorem State.updSeat_pending (s : State) (p : Fin 32) (f : SeatPort → SeatPort) : (s.updSeat p f).pending = s.pending := rfl
@[simp] theorem State.updSeat_raised (s : State) (p : Fin 32) (f : SeatPort → SeatPort) : (s.updSeat p f).raised = s.raised := rfl

@[simp] theorem State.updSeat_now (s : State) (p : Fin 32) (f : SeatPort → SeatPort) : (s.updSeat p f).now = s.now := rfl

@[simp] theorem State.updSeat_runNow (s : State) (p : Fin 32) (f : SeatPort → SeatPort) : (s.updSeat p f).runNow = s.runNow := rfl

@[simp] theorem State.updSeat_draws (s : State) (p : Fin 32) (f : SeatPort → SeatPort) : (s.updSeat p f).draws = s.draws := rfl

@[simp] theorem State.updSeat_ctl (s : State) (p : Fin 32) (f : SeatPort → SeatPort) : (s.updSeat p f).ctl = s.ctl := rfl

@[simp] theorem State.updSeat_line (s : State) (p : Fin 32) (f : SeatPort → SeatPort) : (s.updSeat p f).line = s.line := rfl

@[simp] theorem State.updSeat_tally (s : State) (p : Fin 32) (f : SeatPort → SeatPort) : (s.updSeat p f).tally = s.tally := rfl

@[simp] theorem State.updSeat_clients (s : State) (p : Fin 32) (f : SeatPort → SeatPort) : (s.updSeat p f).clients = s.clients := rfl

@[simp] theorem State.updSeat_claimSeq (s : State) (p : Fin 32) (f : SeatPort → SeatPort) :
    (s.updSeat p f).claimSeq = s.claimSeq := rfl

@[simp] theorem State.updSeat_mem (s : State) (p : Fin 32) (f : SeatPort → SeatPort) : (s.updSeat p f).mem = s.mem := rfl

@[simp] theorem State.updSeat_sched (s : State) (p : Fin 32) (f : SeatPort → SeatPort) : (s.updSeat p f).sched = s.sched := rfl

@[simp] theorem State.updSeat_seats (s : State) (p : Fin 32) (f : SeatPort → SeatPort) :
    (s.updSeat p f).seats = s.seats.set p (f (s.seat p)) := rfl

@[simp] theorem State.updSeat_scanTimer (s : State) (p : Fin 32) (f : SeatPort → SeatPort) :
    (s.updSeat p f).scanTimer = s.scanTimer := rfl

@[simp] theorem State.updSeat_radios (s : State) (p : Fin 32) (f : SeatPort → SeatPort) : (s.updSeat p f).radios = s.radios := rfl

@[simp] theorem State.updSeat_filter (s : State) (p : Fin 32) (f : SeatPort → SeatPort) : (s.updSeat p f).filter = s.filter := rfl

@[simp] theorem State.updSeat_counters (s : State) (p : Fin 32) (f : SeatPort → SeatPort) :
    (s.updSeat p f).counters = s.counters := rfl

@[simp] theorem State.updSeat_notices (s : State) (p : Fin 32) (f : SeatPort → SeatPort) : (s.updSeat p f).notices = s.notices := rfl

@[simp] theorem State.updSeat_alerts (s : State) (p : Fin 32) (f : SeatPort → SeatPort) : (s.updSeat p f).alerts = s.alerts := rfl

@[simp] theorem State.updSeat_response (s : State) (p : Fin 32) (f : SeatPort → SeatPort) :
    (s.updSeat p f).response = s.response := rfl

@[simp] theorem State.updSeat_restartArmed (s : State) (p : Fin 32) (f : SeatPort → SeatPort) :
    (s.updSeat p f).restartArmed = s.restartArmed := rfl

@[simp] theorem State.updSeat_client (s : State) (p : Fin 32) (f : SeatPort → SeatPort) (j : Fin 256) :
    (s.updSeat p f).client j = s.client j := rfl

@[simp] theorem State.updSeat_radio (s : State) (p : Fin 32) (f : SeatPort → SeatPort) (k : Fin 6) :
    (s.updSeat p f).radio k = s.radio k := rfl

@[simp] theorem State.updSeat_alert (s : State) (p : Fin 32) (f : SeatPort → SeatPort) (b : AlertNo) :
    (s.updSeat p f).alert b = s.alert b := rfl

@[simp] theorem State.updSeat_op (s : State) (p : Fin 32) (f : SeatPort → SeatPort) : (s.updSeat p f).op = s.op := rfl

@[simp] theorem State.updSeat_cfg (s : State) (p : Fin 32) (f : SeatPort → SeatPort) : (s.updSeat p f).cfg = s.cfg := rfl

@[simp] theorem State.updSeat_active (s : State) (p : Fin 32) (f : SeatPort → SeatPort) : (s.updSeat p f).active = s.active := rfl

/-! ## `updRadio` -/

@[simp] theorem State.updRadio_pending (s : State) (r : Fin 6) (f : RadioLink → RadioLink) :
    (s.updRadio r f).pending = s.pending := rfl
@[simp] theorem State.updRadio_raised (s : State) (r : Fin 6) (f : RadioLink → RadioLink) :
    (s.updRadio r f).raised = s.raised := rfl

@[simp] theorem State.updRadio_now (s : State) (r : Fin 6) (f : RadioLink → RadioLink) : (s.updRadio r f).now = s.now := rfl

@[simp] theorem State.updRadio_runNow (s : State) (r : Fin 6) (f : RadioLink → RadioLink) :
    (s.updRadio r f).runNow = s.runNow := rfl

@[simp] theorem State.updRadio_draws (s : State) (r : Fin 6) (f : RadioLink → RadioLink) : (s.updRadio r f).draws = s.draws := rfl

@[simp] theorem State.updRadio_ctl (s : State) (r : Fin 6) (f : RadioLink → RadioLink) : (s.updRadio r f).ctl = s.ctl := rfl

@[simp] theorem State.updRadio_line (s : State) (r : Fin 6) (f : RadioLink → RadioLink) : (s.updRadio r f).line = s.line := rfl

@[simp] theorem State.updRadio_tally (s : State) (r : Fin 6) (f : RadioLink → RadioLink) : (s.updRadio r f).tally = s.tally := rfl

@[simp] theorem State.updRadio_clients (s : State) (r : Fin 6) (f : RadioLink → RadioLink) :
    (s.updRadio r f).clients = s.clients := rfl

@[simp] theorem State.updRadio_claimSeq (s : State) (r : Fin 6) (f : RadioLink → RadioLink) :
    (s.updRadio r f).claimSeq = s.claimSeq := rfl

@[simp] theorem State.updRadio_mem (s : State) (r : Fin 6) (f : RadioLink → RadioLink) : (s.updRadio r f).mem = s.mem := rfl

@[simp] theorem State.updRadio_sched (s : State) (r : Fin 6) (f : RadioLink → RadioLink) : (s.updRadio r f).sched = s.sched := rfl

@[simp] theorem State.updRadio_seats (s : State) (r : Fin 6) (f : RadioLink → RadioLink) : (s.updRadio r f).seats = s.seats := rfl

@[simp] theorem State.updRadio_scanTimer (s : State) (r : Fin 6) (f : RadioLink → RadioLink) :
    (s.updRadio r f).scanTimer = s.scanTimer := rfl

@[simp] theorem State.updRadio_radios (s : State) (r : Fin 6) (f : RadioLink → RadioLink) :
    (s.updRadio r f).radios = s.radios.set r (f (s.radio r)) := rfl

@[simp] theorem State.updRadio_filter (s : State) (r : Fin 6) (f : RadioLink → RadioLink) :
    (s.updRadio r f).filter = s.filter := rfl

@[simp] theorem State.updRadio_counters (s : State) (r : Fin 6) (f : RadioLink → RadioLink) :
    (s.updRadio r f).counters = s.counters := rfl

@[simp] theorem State.updRadio_notices (s : State) (r : Fin 6) (f : RadioLink → RadioLink) :
    (s.updRadio r f).notices = s.notices := rfl

@[simp] theorem State.updRadio_alerts (s : State) (r : Fin 6) (f : RadioLink → RadioLink) :
    (s.updRadio r f).alerts = s.alerts := rfl

@[simp] theorem State.updRadio_response (s : State) (r : Fin 6) (f : RadioLink → RadioLink) :
    (s.updRadio r f).response = s.response := rfl

@[simp] theorem State.updRadio_restartArmed (s : State) (r : Fin 6) (f : RadioLink → RadioLink) :
    (s.updRadio r f).restartArmed = s.restartArmed := rfl

@[simp] theorem State.updRadio_client (s : State) (r : Fin 6) (f : RadioLink → RadioLink) (j : Fin 256) :
    (s.updRadio r f).client j = s.client j := rfl

@[simp] theorem State.updRadio_seat (s : State) (r : Fin 6) (f : RadioLink → RadioLink) (q : Fin 32) :
    (s.updRadio r f).seat q = s.seat q := rfl

@[simp] theorem State.updRadio_alert (s : State) (r : Fin 6) (f : RadioLink → RadioLink) (b : AlertNo) :
    (s.updRadio r f).alert b = s.alert b := rfl

@[simp] theorem State.updRadio_op (s : State) (r : Fin 6) (f : RadioLink → RadioLink) : (s.updRadio r f).op = s.op := rfl

@[simp] theorem State.updRadio_cfg (s : State) (r : Fin 6) (f : RadioLink → RadioLink) : (s.updRadio r f).cfg = s.cfg := rfl

@[simp] theorem State.updRadio_active (s : State) (r : Fin 6) (f : RadioLink → RadioLink) : (s.updRadio r f).active = s.active := rfl

/-! ## `updAlert` -/

@[simp] theorem State.updAlert_pending (s : State) (a : AlertNo) (f : AlertSource → AlertSource) :
    (s.updAlert a f).pending = s.pending := rfl
@[simp] theorem State.updAlert_raised (s : State) (a : AlertNo) (f : AlertSource → AlertSource) :
    (s.updAlert a f).raised = s.raised := rfl

@[simp] theorem State.updAlert_now (s : State) (a : AlertNo) (f : AlertSource → AlertSource) :
    (s.updAlert a f).now = s.now := rfl

@[simp] theorem State.updAlert_runNow (s : State) (a : AlertNo) (f : AlertSource → AlertSource) :
    (s.updAlert a f).runNow = s.runNow := rfl

@[simp] theorem State.updAlert_draws (s : State) (a : AlertNo) (f : AlertSource → AlertSource) :
    (s.updAlert a f).draws = s.draws := rfl

@[simp] theorem State.updAlert_ctl (s : State) (a : AlertNo) (f : AlertSource → AlertSource) :
    (s.updAlert a f).ctl = s.ctl := rfl

@[simp] theorem State.updAlert_line (s : State) (a : AlertNo) (f : AlertSource → AlertSource) :
    (s.updAlert a f).line = s.line := rfl

@[simp] theorem State.updAlert_tally (s : State) (a : AlertNo) (f : AlertSource → AlertSource) :
    (s.updAlert a f).tally = s.tally := rfl

@[simp] theorem State.updAlert_clients (s : State) (a : AlertNo) (f : AlertSource → AlertSource) :
    (s.updAlert a f).clients = s.clients := rfl

@[simp] theorem State.updAlert_claimSeq (s : State) (a : AlertNo) (f : AlertSource → AlertSource) :
    (s.updAlert a f).claimSeq = s.claimSeq := rfl

@[simp] theorem State.updAlert_mem (s : State) (a : AlertNo) (f : AlertSource → AlertSource) :
    (s.updAlert a f).mem = s.mem := rfl

@[simp] theorem State.updAlert_sched (s : State) (a : AlertNo) (f : AlertSource → AlertSource) :
    (s.updAlert a f).sched = s.sched := rfl

@[simp] theorem State.updAlert_seats (s : State) (a : AlertNo) (f : AlertSource → AlertSource) :
    (s.updAlert a f).seats = s.seats := rfl

@[simp] theorem State.updAlert_scanTimer (s : State) (a : AlertNo) (f : AlertSource → AlertSource) :
    (s.updAlert a f).scanTimer = s.scanTimer := rfl

@[simp] theorem State.updAlert_radios (s : State) (a : AlertNo) (f : AlertSource → AlertSource) :
    (s.updAlert a f).radios = s.radios := rfl

@[simp] theorem State.updAlert_filter (s : State) (a : AlertNo) (f : AlertSource → AlertSource) :
    (s.updAlert a f).filter = s.filter := rfl

@[simp] theorem State.updAlert_counters (s : State) (a : AlertNo) (f : AlertSource → AlertSource) :
    (s.updAlert a f).counters = s.counters := rfl

@[simp] theorem State.updAlert_notices (s : State) (a : AlertNo) (f : AlertSource → AlertSource) :
    (s.updAlert a f).notices = s.notices := rfl

@[simp] theorem State.updAlert_alerts (s : State) (a : AlertNo) (f : AlertSource → AlertSource) :
    (s.updAlert a f).alerts = s.alerts.set a (f (s.alert a)) := rfl

@[simp] theorem State.updAlert_response (s : State) (a : AlertNo) (f : AlertSource → AlertSource) :
    (s.updAlert a f).response = s.response := rfl

@[simp] theorem State.updAlert_restartArmed (s : State) (a : AlertNo) (f : AlertSource → AlertSource) :
    (s.updAlert a f).restartArmed = s.restartArmed := rfl

@[simp] theorem State.updAlert_client (s : State) (a : AlertNo) (f : AlertSource → AlertSource) (j : Fin 256) :
    (s.updAlert a f).client j = s.client j := rfl

@[simp] theorem State.updAlert_seat (s : State) (a : AlertNo) (f : AlertSource → AlertSource) (q : Fin 32) :
    (s.updAlert a f).seat q = s.seat q := rfl

@[simp] theorem State.updAlert_radio (s : State) (a : AlertNo) (f : AlertSource → AlertSource) (k : Fin 6) :
    (s.updAlert a f).radio k = s.radio k := rfl

@[simp] theorem State.updAlert_op (s : State) (a : AlertNo) (f : AlertSource → AlertSource) : (s.updAlert a f).op = s.op := rfl

@[simp] theorem State.updAlert_cfg (s : State) (a : AlertNo) (f : AlertSource → AlertSource) : (s.updAlert a f).cfg = s.cfg := rfl

@[simp] theorem State.updAlert_active (s : State) (a : AlertNo) (f : AlertSource → AlertSource) : (s.updAlert a f).active = s.active := rfl

/-! ## `updCtl` -/

@[simp] theorem State.updCtl_pending (s : State) (f : Control → Control) : (s.updCtl f).pending = s.pending := rfl
@[simp] theorem State.updCtl_raised (s : State) (f : Control → Control) : (s.updCtl f).raised = s.raised := rfl

@[simp] theorem State.updCtl_now (s : State) (f : Control → Control) : (s.updCtl f).now = s.now := rfl

@[simp] theorem State.updCtl_runNow (s : State) (f : Control → Control) : (s.updCtl f).runNow = s.runNow := rfl

@[simp] theorem State.updCtl_draws (s : State) (f : Control → Control) : (s.updCtl f).draws = s.draws := rfl

@[simp] theorem State.updCtl_ctl (s : State) (f : Control → Control) : (s.updCtl f).ctl = f s.ctl := rfl

@[simp] theorem State.updCtl_line (s : State) (f : Control → Control) : (s.updCtl f).line = s.line := rfl

@[simp] theorem State.updCtl_tally (s : State) (f : Control → Control) : (s.updCtl f).tally = s.tally := rfl

@[simp] theorem State.updCtl_clients (s : State) (f : Control → Control) : (s.updCtl f).clients = s.clients := rfl

@[simp] theorem State.updCtl_claimSeq (s : State) (f : Control → Control) : (s.updCtl f).claimSeq = s.claimSeq := rfl

@[simp] theorem State.updCtl_mem (s : State) (f : Control → Control) : (s.updCtl f).mem = s.mem := rfl

@[simp] theorem State.updCtl_sched (s : State) (f : Control → Control) : (s.updCtl f).sched = s.sched := rfl

@[simp] theorem State.updCtl_seats (s : State) (f : Control → Control) : (s.updCtl f).seats = s.seats := rfl

@[simp] theorem State.updCtl_scanTimer (s : State) (f : Control → Control) : (s.updCtl f).scanTimer = s.scanTimer := rfl

@[simp] theorem State.updCtl_radios (s : State) (f : Control → Control) : (s.updCtl f).radios = s.radios := rfl

@[simp] theorem State.updCtl_filter (s : State) (f : Control → Control) : (s.updCtl f).filter = s.filter := rfl

@[simp] theorem State.updCtl_counters (s : State) (f : Control → Control) : (s.updCtl f).counters = s.counters := rfl

@[simp] theorem State.updCtl_notices (s : State) (f : Control → Control) : (s.updCtl f).notices = s.notices := rfl

@[simp] theorem State.updCtl_alerts (s : State) (f : Control → Control) : (s.updCtl f).alerts = s.alerts := rfl

@[simp] theorem State.updCtl_response (s : State) (f : Control → Control) : (s.updCtl f).response = s.response := rfl

@[simp] theorem State.updCtl_restartArmed (s : State) (f : Control → Control) : (s.updCtl f).restartArmed = s.restartArmed := rfl

@[simp] theorem State.updCtl_client (s : State) (f : Control → Control) (j : Fin 256) :
    (s.updCtl f).client j = s.client j := rfl

@[simp] theorem State.updCtl_seat (s : State) (f : Control → Control) (q : Fin 32) :
    (s.updCtl f).seat q = s.seat q := rfl

@[simp] theorem State.updCtl_radio (s : State) (f : Control → Control) (k : Fin 6) :
    (s.updCtl f).radio k = s.radio k := rfl

@[simp] theorem State.updCtl_alert (s : State) (f : Control → Control) (b : AlertNo) :
    (s.updCtl f).alert b = s.alert b := rfl

/-! ## `updLine` -/

@[simp] theorem State.updLine_pending (s : State) (f : LineIf → LineIf) : (s.updLine f).pending = s.pending := rfl
@[simp] theorem State.updLine_raised (s : State) (f : LineIf → LineIf) : (s.updLine f).raised = s.raised := rfl

@[simp] theorem State.updLine_now (s : State) (f : LineIf → LineIf) : (s.updLine f).now = s.now := rfl

@[simp] theorem State.updLine_runNow (s : State) (f : LineIf → LineIf) : (s.updLine f).runNow = s.runNow := rfl

@[simp] theorem State.updLine_draws (s : State) (f : LineIf → LineIf) : (s.updLine f).draws = s.draws := rfl

@[simp] theorem State.updLine_ctl (s : State) (f : LineIf → LineIf) : (s.updLine f).ctl = s.ctl := rfl

@[simp] theorem State.updLine_line (s : State) (f : LineIf → LineIf) : (s.updLine f).line = f s.line := rfl

@[simp] theorem State.updLine_tally (s : State) (f : LineIf → LineIf) : (s.updLine f).tally = s.tally := rfl

@[simp] theorem State.updLine_clients (s : State) (f : LineIf → LineIf) : (s.updLine f).clients = s.clients := rfl

@[simp] theorem State.updLine_claimSeq (s : State) (f : LineIf → LineIf) : (s.updLine f).claimSeq = s.claimSeq := rfl

@[simp] theorem State.updLine_mem (s : State) (f : LineIf → LineIf) : (s.updLine f).mem = s.mem := rfl

@[simp] theorem State.updLine_sched (s : State) (f : LineIf → LineIf) : (s.updLine f).sched = s.sched := rfl

@[simp] theorem State.updLine_seats (s : State) (f : LineIf → LineIf) : (s.updLine f).seats = s.seats := rfl

@[simp] theorem State.updLine_scanTimer (s : State) (f : LineIf → LineIf) : (s.updLine f).scanTimer = s.scanTimer := rfl

@[simp] theorem State.updLine_radios (s : State) (f : LineIf → LineIf) : (s.updLine f).radios = s.radios := rfl

@[simp] theorem State.updLine_filter (s : State) (f : LineIf → LineIf) : (s.updLine f).filter = s.filter := rfl

@[simp] theorem State.updLine_counters (s : State) (f : LineIf → LineIf) : (s.updLine f).counters = s.counters := rfl

@[simp] theorem State.updLine_notices (s : State) (f : LineIf → LineIf) : (s.updLine f).notices = s.notices := rfl

@[simp] theorem State.updLine_alerts (s : State) (f : LineIf → LineIf) : (s.updLine f).alerts = s.alerts := rfl

@[simp] theorem State.updLine_response (s : State) (f : LineIf → LineIf) : (s.updLine f).response = s.response := rfl

@[simp] theorem State.updLine_restartArmed (s : State) (f : LineIf → LineIf) : (s.updLine f).restartArmed = s.restartArmed := rfl

@[simp] theorem State.updLine_client (s : State) (f : LineIf → LineIf) (j : Fin 256) :
    (s.updLine f).client j = s.client j := rfl

@[simp] theorem State.updLine_seat (s : State) (f : LineIf → LineIf) (q : Fin 32) :
    (s.updLine f).seat q = s.seat q := rfl

@[simp] theorem State.updLine_radio (s : State) (f : LineIf → LineIf) (k : Fin 6) :
    (s.updLine f).radio k = s.radio k := rfl

@[simp] theorem State.updLine_alert (s : State) (f : LineIf → LineIf) (b : AlertNo) :
    (s.updLine f).alert b = s.alert b := rfl

@[simp] theorem State.updLine_op (s : State) (f : LineIf → LineIf) : (s.updLine f).op = s.op := rfl

@[simp] theorem State.updLine_cfg (s : State) (f : LineIf → LineIf) : (s.updLine f).cfg = s.cfg := rfl

@[simp] theorem State.updLine_active (s : State) (f : LineIf → LineIf) : (s.updLine f).active = s.active := rfl

/-! ## `updTally` -/

@[simp] theorem State.updTally_pending (s : State) (f : TallyEngine → TallyEngine) : (s.updTally f).pending = s.pending := rfl
@[simp] theorem State.updTally_raised (s : State) (f : TallyEngine → TallyEngine) : (s.updTally f).raised = s.raised := rfl

@[simp] theorem State.updTally_now (s : State) (f : TallyEngine → TallyEngine) : (s.updTally f).now = s.now := rfl

@[simp] theorem State.updTally_runNow (s : State) (f : TallyEngine → TallyEngine) : (s.updTally f).runNow = s.runNow := rfl

@[simp] theorem State.updTally_draws (s : State) (f : TallyEngine → TallyEngine) : (s.updTally f).draws = s.draws := rfl

@[simp] theorem State.updTally_ctl (s : State) (f : TallyEngine → TallyEngine) : (s.updTally f).ctl = s.ctl := rfl

@[simp] theorem State.updTally_line (s : State) (f : TallyEngine → TallyEngine) : (s.updTally f).line = s.line := rfl

@[simp] theorem State.updTally_tally (s : State) (f : TallyEngine → TallyEngine) : (s.updTally f).tally = f s.tally := rfl

@[simp] theorem State.updTally_clients (s : State) (f : TallyEngine → TallyEngine) : (s.updTally f).clients = s.clients := rfl

@[simp] theorem State.updTally_claimSeq (s : State) (f : TallyEngine → TallyEngine) : (s.updTally f).claimSeq = s.claimSeq := rfl

@[simp] theorem State.updTally_mem (s : State) (f : TallyEngine → TallyEngine) : (s.updTally f).mem = s.mem := rfl

@[simp] theorem State.updTally_sched (s : State) (f : TallyEngine → TallyEngine) : (s.updTally f).sched = s.sched := rfl

@[simp] theorem State.updTally_seats (s : State) (f : TallyEngine → TallyEngine) : (s.updTally f).seats = s.seats := rfl

@[simp] theorem State.updTally_scanTimer (s : State) (f : TallyEngine → TallyEngine) : (s.updTally f).scanTimer = s.scanTimer := rfl

@[simp] theorem State.updTally_radios (s : State) (f : TallyEngine → TallyEngine) : (s.updTally f).radios = s.radios := rfl

@[simp] theorem State.updTally_filter (s : State) (f : TallyEngine → TallyEngine) : (s.updTally f).filter = s.filter := rfl

@[simp] theorem State.updTally_counters (s : State) (f : TallyEngine → TallyEngine) : (s.updTally f).counters = s.counters := rfl

@[simp] theorem State.updTally_notices (s : State) (f : TallyEngine → TallyEngine) : (s.updTally f).notices = s.notices := rfl

@[simp] theorem State.updTally_alerts (s : State) (f : TallyEngine → TallyEngine) : (s.updTally f).alerts = s.alerts := rfl

@[simp] theorem State.updTally_response (s : State) (f : TallyEngine → TallyEngine) : (s.updTally f).response = s.response := rfl

@[simp] theorem State.updTally_restartArmed (s : State) (f : TallyEngine → TallyEngine) : (s.updTally f).restartArmed = s.restartArmed := rfl

@[simp] theorem State.updTally_client (s : State) (f : TallyEngine → TallyEngine) (j : Fin 256) :
    (s.updTally f).client j = s.client j := rfl

@[simp] theorem State.updTally_seat (s : State) (f : TallyEngine → TallyEngine) (q : Fin 32) :
    (s.updTally f).seat q = s.seat q := rfl

@[simp] theorem State.updTally_radio (s : State) (f : TallyEngine → TallyEngine) (k : Fin 6) :
    (s.updTally f).radio k = s.radio k := rfl

@[simp] theorem State.updTally_alert (s : State) (f : TallyEngine → TallyEngine) (b : AlertNo) :
    (s.updTally f).alert b = s.alert b := rfl

@[simp] theorem State.updTally_op (s : State) (f : TallyEngine → TallyEngine) : (s.updTally f).op = s.op := rfl

@[simp] theorem State.updTally_cfg (s : State) (f : TallyEngine → TallyEngine) : (s.updTally f).cfg = s.cfg := rfl

@[simp] theorem State.updTally_active (s : State) (f : TallyEngine → TallyEngine) : (s.updTally f).active = s.active := rfl

/-! ## `updSched` -/

@[simp] theorem State.updSched_pending (s : State) (f : Scheduler → Scheduler) : (s.updSched f).pending = s.pending := rfl
@[simp] theorem State.updSched_raised (s : State) (f : Scheduler → Scheduler) : (s.updSched f).raised = s.raised := rfl

@[simp] theorem State.updSched_now (s : State) (f : Scheduler → Scheduler) : (s.updSched f).now = s.now := rfl

@[simp] theorem State.updSched_runNow (s : State) (f : Scheduler → Scheduler) : (s.updSched f).runNow = s.runNow := rfl

@[simp] theorem State.updSched_draws (s : State) (f : Scheduler → Scheduler) : (s.updSched f).draws = s.draws := rfl

@[simp] theorem State.updSched_ctl (s : State) (f : Scheduler → Scheduler) : (s.updSched f).ctl = s.ctl := rfl

@[simp] theorem State.updSched_line (s : State) (f : Scheduler → Scheduler) : (s.updSched f).line = s.line := rfl

@[simp] theorem State.updSched_tally (s : State) (f : Scheduler → Scheduler) : (s.updSched f).tally = s.tally := rfl

@[simp] theorem State.updSched_clients (s : State) (f : Scheduler → Scheduler) : (s.updSched f).clients = s.clients := rfl

@[simp] theorem State.updSched_claimSeq (s : State) (f : Scheduler → Scheduler) : (s.updSched f).claimSeq = s.claimSeq := rfl

@[simp] theorem State.updSched_mem (s : State) (f : Scheduler → Scheduler) : (s.updSched f).mem = s.mem := rfl

@[simp] theorem State.updSched_sched (s : State) (f : Scheduler → Scheduler) : (s.updSched f).sched = f s.sched := rfl

@[simp] theorem State.updSched_seats (s : State) (f : Scheduler → Scheduler) : (s.updSched f).seats = s.seats := rfl

@[simp] theorem State.updSched_scanTimer (s : State) (f : Scheduler → Scheduler) : (s.updSched f).scanTimer = s.scanTimer := rfl

@[simp] theorem State.updSched_radios (s : State) (f : Scheduler → Scheduler) : (s.updSched f).radios = s.radios := rfl

@[simp] theorem State.updSched_filter (s : State) (f : Scheduler → Scheduler) : (s.updSched f).filter = s.filter := rfl

@[simp] theorem State.updSched_counters (s : State) (f : Scheduler → Scheduler) : (s.updSched f).counters = s.counters := rfl

@[simp] theorem State.updSched_notices (s : State) (f : Scheduler → Scheduler) : (s.updSched f).notices = s.notices := rfl

@[simp] theorem State.updSched_alerts (s : State) (f : Scheduler → Scheduler) : (s.updSched f).alerts = s.alerts := rfl

@[simp] theorem State.updSched_response (s : State) (f : Scheduler → Scheduler) : (s.updSched f).response = s.response := rfl

@[simp] theorem State.updSched_restartArmed (s : State) (f : Scheduler → Scheduler) : (s.updSched f).restartArmed = s.restartArmed := rfl

@[simp] theorem State.updSched_client (s : State) (f : Scheduler → Scheduler) (j : Fin 256) :
    (s.updSched f).client j = s.client j := rfl

@[simp] theorem State.updSched_seat (s : State) (f : Scheduler → Scheduler) (q : Fin 32) :
    (s.updSched f).seat q = s.seat q := rfl

@[simp] theorem State.updSched_radio (s : State) (f : Scheduler → Scheduler) (k : Fin 6) :
    (s.updSched f).radio k = s.radio k := rfl

@[simp] theorem State.updSched_alert (s : State) (f : Scheduler → Scheduler) (b : AlertNo) :
    (s.updSched f).alert b = s.alert b := rfl

@[simp] theorem State.updSched_op (s : State) (f : Scheduler → Scheduler) : (s.updSched f).op = s.op := rfl

@[simp] theorem State.updSched_cfg (s : State) (f : Scheduler → Scheduler) : (s.updSched f).cfg = s.cfg := rfl

@[simp] theorem State.updSched_active (s : State) (f : Scheduler → Scheduler) : (s.updSched f).active = s.active := rfl

/-! ## `updMem` -/

@[simp] theorem State.updMem_pending (s : State) (f : PacketMem → PacketMem) : (s.updMem f).pending = s.pending := rfl
@[simp] theorem State.updMem_raised (s : State) (f : PacketMem → PacketMem) : (s.updMem f).raised = s.raised := rfl

@[simp] theorem State.updMem_now (s : State) (f : PacketMem → PacketMem) : (s.updMem f).now = s.now := rfl

@[simp] theorem State.updMem_runNow (s : State) (f : PacketMem → PacketMem) : (s.updMem f).runNow = s.runNow := rfl

@[simp] theorem State.updMem_draws (s : State) (f : PacketMem → PacketMem) : (s.updMem f).draws = s.draws := rfl

@[simp] theorem State.updMem_ctl (s : State) (f : PacketMem → PacketMem) : (s.updMem f).ctl = s.ctl := rfl

@[simp] theorem State.updMem_line (s : State) (f : PacketMem → PacketMem) : (s.updMem f).line = s.line := rfl

@[simp] theorem State.updMem_tally (s : State) (f : PacketMem → PacketMem) : (s.updMem f).tally = s.tally := rfl

@[simp] theorem State.updMem_clients (s : State) (f : PacketMem → PacketMem) : (s.updMem f).clients = s.clients := rfl

@[simp] theorem State.updMem_claimSeq (s : State) (f : PacketMem → PacketMem) : (s.updMem f).claimSeq = s.claimSeq := rfl

@[simp] theorem State.updMem_mem (s : State) (f : PacketMem → PacketMem) : (s.updMem f).mem = f s.mem := rfl

@[simp] theorem State.updMem_sched (s : State) (f : PacketMem → PacketMem) : (s.updMem f).sched = s.sched := rfl

@[simp] theorem State.updMem_seats (s : State) (f : PacketMem → PacketMem) : (s.updMem f).seats = s.seats := rfl

@[simp] theorem State.updMem_scanTimer (s : State) (f : PacketMem → PacketMem) : (s.updMem f).scanTimer = s.scanTimer := rfl

@[simp] theorem State.updMem_radios (s : State) (f : PacketMem → PacketMem) : (s.updMem f).radios = s.radios := rfl

@[simp] theorem State.updMem_filter (s : State) (f : PacketMem → PacketMem) : (s.updMem f).filter = s.filter := rfl

@[simp] theorem State.updMem_counters (s : State) (f : PacketMem → PacketMem) : (s.updMem f).counters = s.counters := rfl

@[simp] theorem State.updMem_notices (s : State) (f : PacketMem → PacketMem) : (s.updMem f).notices = s.notices := rfl

@[simp] theorem State.updMem_alerts (s : State) (f : PacketMem → PacketMem) : (s.updMem f).alerts = s.alerts := rfl

@[simp] theorem State.updMem_response (s : State) (f : PacketMem → PacketMem) : (s.updMem f).response = s.response := rfl

@[simp] theorem State.updMem_restartArmed (s : State) (f : PacketMem → PacketMem) : (s.updMem f).restartArmed = s.restartArmed := rfl

@[simp] theorem State.updMem_client (s : State) (f : PacketMem → PacketMem) (j : Fin 256) :
    (s.updMem f).client j = s.client j := rfl

@[simp] theorem State.updMem_seat (s : State) (f : PacketMem → PacketMem) (q : Fin 32) :
    (s.updMem f).seat q = s.seat q := rfl

@[simp] theorem State.updMem_radio (s : State) (f : PacketMem → PacketMem) (k : Fin 6) :
    (s.updMem f).radio k = s.radio k := rfl

@[simp] theorem State.updMem_alert (s : State) (f : PacketMem → PacketMem) (b : AlertNo) :
    (s.updMem f).alert b = s.alert b := rfl

@[simp] theorem State.updMem_op (s : State) (f : PacketMem → PacketMem) : (s.updMem f).op = s.op := rfl

@[simp] theorem State.updMem_cfg (s : State) (f : PacketMem → PacketMem) : (s.updMem f).cfg = s.cfg := rfl

@[simp] theorem State.updMem_active (s : State) (f : PacketMem → PacketMem) : (s.updMem f).active = s.active := rfl

/-! ## `count` -/

@[simp] theorem State.count_pending (s : State) (c : Counter) (n : Nat) : (s.count c n).pending = s.pending := rfl
@[simp] theorem State.count_raised (s : State) (c : Counter) (n : Nat) : (s.count c n).raised = s.raised := rfl

@[simp] theorem State.count_now (s : State) (c : Counter) (n : Nat) : (s.count c n).now = s.now := rfl

@[simp] theorem State.count_runNow (s : State) (c : Counter) (n : Nat) : (s.count c n).runNow = s.runNow := rfl

@[simp] theorem State.count_draws (s : State) (c : Counter) (n : Nat) : (s.count c n).draws = s.draws := rfl

@[simp] theorem State.count_ctl (s : State) (c : Counter) (n : Nat) : (s.count c n).ctl = s.ctl := rfl

@[simp] theorem State.count_line (s : State) (c : Counter) (n : Nat) : (s.count c n).line = s.line := rfl

@[simp] theorem State.count_tally (s : State) (c : Counter) (n : Nat) : (s.count c n).tally = s.tally := rfl

@[simp] theorem State.count_clients (s : State) (c : Counter) (n : Nat) : (s.count c n).clients = s.clients := rfl

@[simp] theorem State.count_claimSeq (s : State) (c : Counter) (n : Nat) : (s.count c n).claimSeq = s.claimSeq := rfl

@[simp] theorem State.count_mem (s : State) (c : Counter) (n : Nat) : (s.count c n).mem = s.mem := rfl

@[simp] theorem State.count_sched (s : State) (c : Counter) (n : Nat) : (s.count c n).sched = s.sched := rfl

@[simp] theorem State.count_seats (s : State) (c : Counter) (n : Nat) : (s.count c n).seats = s.seats := rfl

@[simp] theorem State.count_scanTimer (s : State) (c : Counter) (n : Nat) : (s.count c n).scanTimer = s.scanTimer := rfl

@[simp] theorem State.count_radios (s : State) (c : Counter) (n : Nat) : (s.count c n).radios = s.radios := rfl

@[simp] theorem State.count_filter (s : State) (c : Counter) (n : Nat) : (s.count c n).filter = s.filter := rfl

@[simp] theorem State.count_counters (s : State) (c : Counter) (n : Nat) :
    (s.count c n).counters = s.counters.set c (satAdd s.counters[c] n) := rfl

@[simp] theorem State.count_notices (s : State) (c : Counter) (n : Nat) : (s.count c n).notices = s.notices := rfl

@[simp] theorem State.count_alerts (s : State) (c : Counter) (n : Nat) : (s.count c n).alerts = s.alerts := rfl

@[simp] theorem State.count_response (s : State) (c : Counter) (n : Nat) : (s.count c n).response = s.response := rfl

@[simp] theorem State.count_restartArmed (s : State) (c : Counter) (n : Nat) : (s.count c n).restartArmed = s.restartArmed := rfl

@[simp] theorem State.count_client (s : State) (c : Counter) (n : Nat) (j : Fin 256) :
    (s.count c n).client j = s.client j := rfl

@[simp] theorem State.count_seat (s : State) (c : Counter) (n : Nat) (q : Fin 32) :
    (s.count c n).seat q = s.seat q := rfl

@[simp] theorem State.count_radio (s : State) (c : Counter) (n : Nat) (k : Fin 6) :
    (s.count c n).radio k = s.radio k := rfl

@[simp] theorem State.count_alert (s : State) (c : Counter) (n : Nat) (b : AlertNo) :
    (s.count c n).alert b = s.alert b := rfl

@[simp] theorem State.count_op (s : State) (c : Counter) (n : Nat) : (s.count c n).op = s.op := rfl

@[simp] theorem State.count_cfg (s : State) (c : Counter) (n : Nat) : (s.count c n).cfg = s.cfg := rfl

@[simp] theorem State.count_active (s : State) (c : Counter) (n : Nat) : (s.count c n).active = s.active := rfl

/-! ## `raiseAlert` -/

@[simp] theorem State.raiseAlert_pending (s : State) (a : AlertNo) : (s.raiseAlert a).pending = s.pending := rfl
@[simp] theorem State.raiseAlert_raised (s : State) (a : AlertNo) : (s.raiseAlert a).raised = s.raised := rfl

@[simp] theorem State.raiseAlert_now (s : State) (a : AlertNo) : (s.raiseAlert a).now = s.now := rfl

@[simp] theorem State.raiseAlert_runNow (s : State) (a : AlertNo) : (s.raiseAlert a).runNow = s.runNow := rfl

@[simp] theorem State.raiseAlert_draws (s : State) (a : AlertNo) : (s.raiseAlert a).draws = s.draws := rfl

@[simp] theorem State.raiseAlert_ctl (s : State) (a : AlertNo) : (s.raiseAlert a).ctl = s.ctl := rfl

@[simp] theorem State.raiseAlert_line (s : State) (a : AlertNo) : (s.raiseAlert a).line = s.line := rfl

@[simp] theorem State.raiseAlert_tally (s : State) (a : AlertNo) : (s.raiseAlert a).tally = s.tally := rfl

@[simp] theorem State.raiseAlert_clients (s : State) (a : AlertNo) : (s.raiseAlert a).clients = s.clients := rfl

@[simp] theorem State.raiseAlert_claimSeq (s : State) (a : AlertNo) : (s.raiseAlert a).claimSeq = s.claimSeq := rfl

@[simp] theorem State.raiseAlert_mem (s : State) (a : AlertNo) : (s.raiseAlert a).mem = s.mem := rfl

@[simp] theorem State.raiseAlert_sched (s : State) (a : AlertNo) : (s.raiseAlert a).sched = s.sched := rfl

@[simp] theorem State.raiseAlert_seats (s : State) (a : AlertNo) : (s.raiseAlert a).seats = s.seats := rfl

@[simp] theorem State.raiseAlert_scanTimer (s : State) (a : AlertNo) : (s.raiseAlert a).scanTimer = s.scanTimer := rfl

@[simp] theorem State.raiseAlert_radios (s : State) (a : AlertNo) : (s.raiseAlert a).radios = s.radios := rfl

@[simp] theorem State.raiseAlert_filter (s : State) (a : AlertNo) : (s.raiseAlert a).filter = s.filter := rfl

@[simp] theorem State.raiseAlert_counters (s : State) (a : AlertNo) : (s.raiseAlert a).counters = s.counters := rfl

@[simp] theorem State.raiseAlert_notices (s : State) (a : AlertNo) : (s.raiseAlert a).notices = s.notices := rfl

@[simp] theorem State.raiseAlert_alerts (s : State) (a : AlertNo) : (s.raiseAlert a).alerts = s.alerts.set a (s.alert a).raised := rfl

@[simp] theorem State.raiseAlert_response (s : State) (a : AlertNo) : (s.raiseAlert a).response = s.response := rfl

@[simp] theorem State.raiseAlert_restartArmed (s : State) (a : AlertNo) : (s.raiseAlert a).restartArmed = s.restartArmed := rfl

@[simp] theorem State.raiseAlert_client (s : State) (a : AlertNo) (j : Fin 256) :
    (s.raiseAlert a).client j = s.client j := rfl

@[simp] theorem State.raiseAlert_seat (s : State) (a : AlertNo) (q : Fin 32) :
    (s.raiseAlert a).seat q = s.seat q := rfl

@[simp] theorem State.raiseAlert_radio (s : State) (a : AlertNo) (k : Fin 6) :
    (s.raiseAlert a).radio k = s.radio k := rfl

@[simp] theorem State.raiseAlert_op (s : State) (a : AlertNo) : (s.raiseAlert a).op = s.op := rfl

@[simp] theorem State.raiseAlert_cfg (s : State) (a : AlertNo) : (s.raiseAlert a).cfg = s.cfg := rfl

@[simp] theorem State.raiseAlert_active (s : State) (a : AlertNo) : (s.raiseAlert a).active = s.active := rfl

/-! ## `advance` -/

@[simp] theorem State.advance_pending (s : State) (n : Nat) : (s.advance n).pending = s.pending := rfl
@[simp] theorem State.advance_raised (s : State) (n : Nat) : (s.advance n).raised = s.raised := rfl

@[simp] theorem State.advance_now (s : State) (n : Nat) : (s.advance n).now = s.now + n := rfl

@[simp] theorem State.advance_runNow (s : State) (n : Nat) :
    (s.advance n).runNow = if s.op = .running then s.runNow + n else s.runNow := rfl

@[simp] theorem State.advance_draws (s : State) (n : Nat) : (s.advance n).draws = s.draws := rfl

@[simp] theorem State.advance_ctl (s : State) (n : Nat) : (s.advance n).ctl = s.ctl := rfl

@[simp] theorem State.advance_line (s : State) (n : Nat) : (s.advance n).line = s.line := rfl

@[simp] theorem State.advance_tally (s : State) (n : Nat) : (s.advance n).tally = s.tally := rfl

@[simp] theorem State.advance_clients (s : State) (n : Nat) : (s.advance n).clients = s.clients := rfl

@[simp] theorem State.advance_claimSeq (s : State) (n : Nat) : (s.advance n).claimSeq = s.claimSeq := rfl

@[simp] theorem State.advance_mem (s : State) (n : Nat) : (s.advance n).mem = s.mem := rfl

@[simp] theorem State.advance_sched (s : State) (n : Nat) : (s.advance n).sched = s.sched := rfl

@[simp] theorem State.advance_seats (s : State) (n : Nat) : (s.advance n).seats = s.seats := rfl

@[simp] theorem State.advance_scanTimer (s : State) (n : Nat) : (s.advance n).scanTimer = s.scanTimer := rfl

@[simp] theorem State.advance_radios (s : State) (n : Nat) : (s.advance n).radios = s.radios := rfl

@[simp] theorem State.advance_filter (s : State) (n : Nat) : (s.advance n).filter = s.filter := rfl

@[simp] theorem State.advance_counters (s : State) (n : Nat) : (s.advance n).counters = s.counters := rfl

@[simp] theorem State.advance_notices (s : State) (n : Nat) : (s.advance n).notices = s.notices := rfl

@[simp] theorem State.advance_alerts (s : State) (n : Nat) : (s.advance n).alerts = s.alerts := rfl

@[simp] theorem State.advance_response (s : State) (n : Nat) : (s.advance n).response = s.response := rfl

@[simp] theorem State.advance_restartArmed (s : State) (n : Nat) : (s.advance n).restartArmed = s.restartArmed := rfl

@[simp] theorem State.advance_client (s : State) (n : Nat) (j : Fin 256) :
    (s.advance n).client j = s.client j := rfl

@[simp] theorem State.advance_seat (s : State) (n : Nat) (q : Fin 32) :
    (s.advance n).seat q = s.seat q := rfl

@[simp] theorem State.advance_radio (s : State) (n : Nat) (k : Fin 6) :
    (s.advance n).radio k = s.radio k := rfl

@[simp] theorem State.advance_alert (s : State) (n : Nat) (b : AlertNo) :
    (s.advance n).alert b = s.alert b := rfl

@[simp] theorem State.advance_op (s : State) (n : Nat) : (s.advance n).op = s.op := rfl

@[simp] theorem State.advance_cfg (s : State) (n : Nat) : (s.advance n).cfg = s.cfg := rfl

@[simp] theorem State.advance_active (s : State) (n : Nat) : (s.advance n).active = s.active := rfl

/-! ## `followedBy` -/

@[simp] theorem State.followedBy_pending (s : State) (c : Instr) :
    (s.followedBy c).pending = c :: s.pending := rfl
@[simp] theorem State.followedBy_raised (s : State) (c : Instr) :
    (s.followedBy c).raised = s.raised := rfl
@[simp] theorem State.followedBy_now (s : State) (c : Instr) :
    (s.followedBy c).now = s.now := rfl
@[simp] theorem State.followedBy_runNow (s : State) (c : Instr) :
    (s.followedBy c).runNow = s.runNow := rfl
@[simp] theorem State.followedBy_draws (s : State) (c : Instr) :
    (s.followedBy c).draws = s.draws := rfl
@[simp] theorem State.followedBy_ctl (s : State) (c : Instr) :
    (s.followedBy c).ctl = s.ctl := rfl
@[simp] theorem State.followedBy_line (s : State) (c : Instr) :
    (s.followedBy c).line = s.line := rfl
@[simp] theorem State.followedBy_tally (s : State) (c : Instr) :
    (s.followedBy c).tally = s.tally := rfl
@[simp] theorem State.followedBy_clients (s : State) (c : Instr) :
    (s.followedBy c).clients = s.clients := rfl
@[simp] theorem State.followedBy_claimSeq (s : State) (c : Instr) :
    (s.followedBy c).claimSeq = s.claimSeq := rfl
@[simp] theorem State.followedBy_mem (s : State) (c : Instr) :
    (s.followedBy c).mem = s.mem := rfl
@[simp] theorem State.followedBy_sched (s : State) (c : Instr) :
    (s.followedBy c).sched = s.sched := rfl
@[simp] theorem State.followedBy_seats (s : State) (c : Instr) :
    (s.followedBy c).seats = s.seats := rfl
@[simp] theorem State.followedBy_scanTimer (s : State) (c : Instr) :
    (s.followedBy c).scanTimer = s.scanTimer := rfl
@[simp] theorem State.followedBy_radios (s : State) (c : Instr) :
    (s.followedBy c).radios = s.radios := rfl
@[simp] theorem State.followedBy_filter (s : State) (c : Instr) :
    (s.followedBy c).filter = s.filter := rfl
@[simp] theorem State.followedBy_counters (s : State) (c : Instr) :
    (s.followedBy c).counters = s.counters := rfl
@[simp] theorem State.followedBy_notices (s : State) (c : Instr) :
    (s.followedBy c).notices = s.notices := rfl
@[simp] theorem State.followedBy_alerts (s : State) (c : Instr) :
    (s.followedBy c).alerts = s.alerts := rfl
@[simp] theorem State.followedBy_response (s : State) (c : Instr) :
    (s.followedBy c).response = s.response := rfl
@[simp] theorem State.followedBy_restartArmed (s : State) (c : Instr) :
    (s.followedBy c).restartArmed = s.restartArmed := rfl

/-! ## `expiresAtOnce` -/

@[simp] theorem State.expiresAtOnce_pending (s : State) (c : Instr) :
    (s.expiresAtOnce c).pending = c :: s.pending := rfl
@[simp] theorem State.expiresAtOnce_raised (s : State) (c : Instr) :
    (s.expiresAtOnce c).raised = c :: s.raised := rfl
@[simp] theorem State.expiresAtOnce_now (s : State) (c : Instr) :
    (s.expiresAtOnce c).now = s.now := rfl
@[simp] theorem State.expiresAtOnce_runNow (s : State) (c : Instr) :
    (s.expiresAtOnce c).runNow = s.runNow := rfl
@[simp] theorem State.expiresAtOnce_draws (s : State) (c : Instr) :
    (s.expiresAtOnce c).draws = s.draws := rfl
@[simp] theorem State.expiresAtOnce_ctl (s : State) (c : Instr) :
    (s.expiresAtOnce c).ctl = s.ctl := rfl
@[simp] theorem State.expiresAtOnce_line (s : State) (c : Instr) :
    (s.expiresAtOnce c).line = s.line := rfl
@[simp] theorem State.expiresAtOnce_tally (s : State) (c : Instr) :
    (s.expiresAtOnce c).tally = s.tally := rfl
@[simp] theorem State.expiresAtOnce_clients (s : State) (c : Instr) :
    (s.expiresAtOnce c).clients = s.clients := rfl
@[simp] theorem State.expiresAtOnce_claimSeq (s : State) (c : Instr) :
    (s.expiresAtOnce c).claimSeq = s.claimSeq := rfl
@[simp] theorem State.expiresAtOnce_mem (s : State) (c : Instr) :
    (s.expiresAtOnce c).mem = s.mem := rfl
@[simp] theorem State.expiresAtOnce_sched (s : State) (c : Instr) :
    (s.expiresAtOnce c).sched = s.sched := rfl
@[simp] theorem State.expiresAtOnce_seats (s : State) (c : Instr) :
    (s.expiresAtOnce c).seats = s.seats := rfl
@[simp] theorem State.expiresAtOnce_scanTimer (s : State) (c : Instr) :
    (s.expiresAtOnce c).scanTimer = s.scanTimer := rfl
@[simp] theorem State.expiresAtOnce_radios (s : State) (c : Instr) :
    (s.expiresAtOnce c).radios = s.radios := rfl
@[simp] theorem State.expiresAtOnce_filter (s : State) (c : Instr) :
    (s.expiresAtOnce c).filter = s.filter := rfl
@[simp] theorem State.expiresAtOnce_counters (s : State) (c : Instr) :
    (s.expiresAtOnce c).counters = s.counters := rfl
@[simp] theorem State.expiresAtOnce_notices (s : State) (c : Instr) :
    (s.expiresAtOnce c).notices = s.notices := rfl
@[simp] theorem State.expiresAtOnce_alerts (s : State) (c : Instr) :
    (s.expiresAtOnce c).alerts = s.alerts := rfl
@[simp] theorem State.expiresAtOnce_response (s : State) (c : Instr) :
    (s.expiresAtOnce c).response = s.response := rfl
@[simp] theorem State.expiresAtOnce_restartArmed (s : State) (c : Instr) :
    (s.expiresAtOnce c).restartArmed = s.restartArmed := rfl

/-! ## `consume` -/

@[simp] theorem State.consume_raised (s : State) (c : Instr) : (s.consume c).raised = s.raised.erase c := rfl
@[simp] theorem State.consume_pending (s : State) (c : Instr) : (s.consume c).pending = s.pending := rfl
@[simp] theorem State.consume_now (s : State) (c : Instr) : (s.consume c).now = s.now := rfl
@[simp] theorem State.consume_runNow (s : State) (c : Instr) : (s.consume c).runNow = s.runNow := rfl
@[simp] theorem State.consume_draws (s : State) (c : Instr) : (s.consume c).draws = s.draws := rfl
@[simp] theorem State.consume_ctl (s : State) (c : Instr) : (s.consume c).ctl = s.ctl := rfl
@[simp] theorem State.consume_line (s : State) (c : Instr) : (s.consume c).line = s.line := rfl
@[simp] theorem State.consume_tally (s : State) (c : Instr) : (s.consume c).tally = s.tally := rfl
@[simp] theorem State.consume_clients (s : State) (c : Instr) : (s.consume c).clients = s.clients := rfl
@[simp] theorem State.consume_claimSeq (s : State) (c : Instr) : (s.consume c).claimSeq = s.claimSeq := rfl
@[simp] theorem State.consume_mem (s : State) (c : Instr) : (s.consume c).mem = s.mem := rfl
@[simp] theorem State.consume_sched (s : State) (c : Instr) : (s.consume c).sched = s.sched := rfl
@[simp] theorem State.consume_seats (s : State) (c : Instr) : (s.consume c).seats = s.seats := rfl
@[simp] theorem State.consume_scanTimer (s : State) (c : Instr) : (s.consume c).scanTimer = s.scanTimer := rfl
@[simp] theorem State.consume_radios (s : State) (c : Instr) : (s.consume c).radios = s.radios := rfl
@[simp] theorem State.consume_filter (s : State) (c : Instr) : (s.consume c).filter = s.filter := rfl
@[simp] theorem State.consume_counters (s : State) (c : Instr) : (s.consume c).counters = s.counters := rfl
@[simp] theorem State.consume_notices (s : State) (c : Instr) : (s.consume c).notices = s.notices := rfl
@[simp] theorem State.consume_alerts (s : State) (c : Instr) : (s.consume c).alerts = s.alerts := rfl
@[simp] theorem State.consume_response (s : State) (c : Instr) : (s.consume c).response = s.response := rfl
@[simp] theorem State.consume_restartArmed (s : State) (c : Instr) : (s.consume c).restartArmed = s.restartArmed := rfl

/-! ## `answer` -/

@[simp] theorem State.answer_pending (s : State) (r : ResultCode) (data : List Word) : (s.answer r data).pending = s.pending := rfl
@[simp] theorem State.answer_raised (s : State) (r : ResultCode) (data : List Word) : (s.answer r data).raised = s.raised := rfl

@[simp] theorem State.answer_now (s : State) (r : ResultCode) (data : List Word) : (s.answer r data).now = s.now := rfl

@[simp] theorem State.answer_runNow (s : State) (r : ResultCode) (data : List Word) : (s.answer r data).runNow = s.runNow := rfl

@[simp] theorem State.answer_draws (s : State) (r : ResultCode) (data : List Word) : (s.answer r data).draws = s.draws := rfl

@[simp] theorem State.answer_ctl (s : State) (r : ResultCode) (data : List Word) : (s.answer r data).ctl = s.ctl := rfl

@[simp] theorem State.answer_line (s : State) (r : ResultCode) (data : List Word) : (s.answer r data).line = s.line := rfl

@[simp] theorem State.answer_tally (s : State) (r : ResultCode) (data : List Word) : (s.answer r data).tally = s.tally := rfl

@[simp] theorem State.answer_clients (s : State) (r : ResultCode) (data : List Word) : (s.answer r data).clients = s.clients := rfl

@[simp] theorem State.answer_claimSeq (s : State) (r : ResultCode) (data : List Word) : (s.answer r data).claimSeq = s.claimSeq := rfl

@[simp] theorem State.answer_mem (s : State) (r : ResultCode) (data : List Word) : (s.answer r data).mem = s.mem := rfl

@[simp] theorem State.answer_sched (s : State) (r : ResultCode) (data : List Word) : (s.answer r data).sched = s.sched := rfl

@[simp] theorem State.answer_seats (s : State) (r : ResultCode) (data : List Word) : (s.answer r data).seats = s.seats := rfl

@[simp] theorem State.answer_scanTimer (s : State) (r : ResultCode) (data : List Word) :
    (s.answer r data).scanTimer = s.scanTimer := rfl

@[simp] theorem State.answer_radios (s : State) (r : ResultCode) (data : List Word) : (s.answer r data).radios = s.radios := rfl

@[simp] theorem State.answer_filter (s : State) (r : ResultCode) (data : List Word) : (s.answer r data).filter = s.filter := rfl

@[simp] theorem State.answer_counters (s : State) (r : ResultCode) (data : List Word) : (s.answer r data).counters = s.counters := rfl

@[simp] theorem State.answer_notices (s : State) (r : ResultCode) (data : List Word) : (s.answer r data).notices = s.notices := rfl

@[simp] theorem State.answer_alerts (s : State) (r : ResultCode) (data : List Word) : (s.answer r data).alerts = s.alerts := rfl

@[simp] theorem State.answer_response (s : State) (r : ResultCode) (data : List Word) :
    (s.answer r data).response = r.code :: data := rfl

@[simp] theorem State.answer_restartArmed (s : State) (r : ResultCode) (data : List Word) :
    (s.answer r data).restartArmed = s.restartArmed := rfl

@[simp] theorem State.answer_client (s : State) (r : ResultCode) (data : List Word) (j : Fin 256) :
    (s.answer r data).client j = s.client j := rfl

@[simp] theorem State.answer_seat (s : State) (r : ResultCode) (data : List Word) (q : Fin 32) :
    (s.answer r data).seat q = s.seat q := rfl

@[simp] theorem State.answer_radio (s : State) (r : ResultCode) (data : List Word) (k : Fin 6) :
    (s.answer r data).radio k = s.radio k := rfl

@[simp] theorem State.answer_alert (s : State) (r : ResultCode) (data : List Word) (b : AlertNo) :
    (s.answer r data).alert b = s.alert b := rfl

@[simp] theorem State.answer_op (s : State) (r : ResultCode) (data : List Word) : (s.answer r data).op = s.op := rfl

@[simp] theorem State.answer_cfg (s : State) (r : ResultCode) (data : List Word) : (s.answer r data).cfg = s.cfg := rfl

@[simp] theorem State.answer_active (s : State) (r : ResultCode) (data : List Word) : (s.answer r data).active = s.active := rfl

/-! ## Reading what was written -/

theorem State.updClient_client (s : State) (i j : Fin 256) (f : Client → Client) :
    (s.updClient i f).client j = if j = i then f (s.client i) else s.client j := by
  simp only [State.client, State.updClient, Fin.getElem_fin, Vector.getElem_set, Fin.ext_iff, eq_comm]

@[simp] theorem State.updClient_client_self (s : State) (i : Fin 256) (f : Client → Client) :
    (s.updClient i f).client i = f (s.client i) := by
  simp [State.updClient_client]

theorem State.updClient_client_ne (s : State) (i j : Fin 256) (f : Client → Client) (h : j ≠ i) :
    (s.updClient i f).client j = s.client j := by
  simp [State.updClient_client, h]

theorem State.updSeat_seat (s : State) (i j : Fin 32) (f : SeatPort → SeatPort) :
    (s.updSeat i f).seat j = if j = i then f (s.seat i) else s.seat j := by
  simp only [State.seat, State.updSeat, Fin.getElem_fin, Vector.getElem_set, Fin.ext_iff, eq_comm]

@[simp] theorem State.updSeat_seat_self (s : State) (i : Fin 32) (f : SeatPort → SeatPort) :
    (s.updSeat i f).seat i = f (s.seat i) := by
  simp [State.updSeat_seat]

theorem State.updSeat_seat_ne (s : State) (i j : Fin 32) (f : SeatPort → SeatPort) (h : j ≠ i) :
    (s.updSeat i f).seat j = s.seat j := by
  simp [State.updSeat_seat, h]

theorem State.updRadio_radio (s : State) (i j : Fin 6) (f : RadioLink → RadioLink) :
    (s.updRadio i f).radio j = if j = i then f (s.radio i) else s.radio j := by
  simp only [State.radio, State.updRadio, Fin.getElem_fin, Vector.getElem_set, Fin.ext_iff, eq_comm]

@[simp] theorem State.updRadio_radio_self (s : State) (i : Fin 6) (f : RadioLink → RadioLink) :
    (s.updRadio i f).radio i = f (s.radio i) := by
  simp [State.updRadio_radio]

theorem State.updRadio_radio_ne (s : State) (i j : Fin 6) (f : RadioLink → RadioLink) (h : j ≠ i) :
    (s.updRadio i f).radio j = s.radio j := by
  simp [State.updRadio_radio, h]

theorem State.updAlert_alert (s : State) (i j : AlertNo) (f : AlertSource → AlertSource) :
    (s.updAlert i f).alert j = if j = i then f (s.alert i) else s.alert j := by
  simp only [State.alert, State.updAlert, Fin.getElem_fin, Vector.getElem_set, Fin.ext_iff, eq_comm]

@[simp] theorem State.updAlert_alert_self (s : State) (i : AlertNo) (f : AlertSource → AlertSource) :
    (s.updAlert i f).alert i = f (s.alert i) := by
  simp [State.updAlert_alert]

theorem State.updAlert_alert_ne (s : State) (i j : AlertNo) (f : AlertSource → AlertSource) (h : j ≠ i) :
    (s.updAlert i f).alert j = s.alert j := by
  simp [State.updAlert_alert, h]

theorem State.raiseAlert_alert (s : State) (a b : AlertNo) :
    (s.raiseAlert a).alert b = if b = a then (s.alert a).raised else s.alert b :=
  s.updAlert_alert a b AlertSource.raised

/-- One counter after a count: raised and holding at its largest value, or as before (R172). -/
theorem State.count_counter (s : State) (c d : Counter) (n : Nat) :
    (s.count c n).counters[d] = if d = c then satAdd s.counters[c] n else s.counters[d] := by
  simp only [State.count, Fin.getElem_fin, Vector.getElem_set, Fin.ext_iff, eq_comm]

end Sys2Proof.Machine
end

