-- ==== Sys2Proof/Laws/Ops.lean ====
section
/-!
SUPPORT. What each shared operation leaves as it was: one lemma for the fields (`_keeps`) and one for the
readings of the operating state, the settings and single entries, ports, links and alert sources
(`_reads`). Stated once here, so that no later proof unfolds an operation for its frame.
-/

namespace Sys2Proof.Machine

/-- A fold whose every step keeps a reading keeps it. -/
theorem State.foldl_keeps {α β : Type} (g : State → β) (f : State → α → State)
    (h : ∀ s a, g (f s a) = g s) (l : List α) (s : State) : g (l.foldl f s) = g s := by
  induction l generalizing s with
  | nil => rfl
  | cons a l ih => simp [ih, h]

/-! ## Notices -/

@[simp] theorem State.postNotice_keeps (s : State) (n : Notice) :
    (s.postNotice n).pending = s.pending ∧ (s.postNotice n).raised = s.raised ∧
    (s.postNotice n).now = s.now ∧ (s.postNotice n).runNow = s.runNow ∧ (s.postNotice n).draws = s.draws ∧
    (s.postNotice n).ctl = s.ctl ∧ (s.postNotice n).line = s.line ∧ (s.postNotice n).tally = s.tally ∧
    (s.postNotice n).clients = s.clients ∧ (s.postNotice n).claimSeq = s.claimSeq ∧
    (s.postNotice n).mem = s.mem ∧ (s.postNotice n).sched = s.sched ∧ (s.postNotice n).seats = s.seats ∧
    (s.postNotice n).scanTimer = s.scanTimer ∧ (s.postNotice n).radios = s.radios ∧
    (s.postNotice n).filter = s.filter ∧ (s.postNotice n).response = s.response ∧
    (s.postNotice n).restartArmed = s.restartArmed := by
  unfold State.postNotice
  (repeat' split) <;> simp

@[simp] theorem State.postNotice_reads (s : State) (n : Notice) :
    (s.postNotice n).op = s.op ∧ (s.postNotice n).cfg = s.cfg ∧ (s.postNotice n).active = s.active ∧
    (∀ j, (s.postNotice n).client j = s.client j) ∧ (∀ k, (s.postNotice n).seat k = s.seat k) ∧
    (∀ l, (s.postNotice n).radio l = s.radio l) := by
  simp [State.op, State.cfg, State.active, State.client, State.seat, State.radio]

@[simp] theorem State.postAdded_keeps (s : State) (i : Fin 256) :
    (s.postAdded i).pending = s.pending ∧ (s.postAdded i).raised = s.raised ∧ (s.postAdded i).now = s.now ∧
    (s.postAdded i).runNow = s.runNow ∧ (s.postAdded i).draws = s.draws ∧ (s.postAdded i).ctl = s.ctl ∧
    (s.postAdded i).line = s.line ∧ (s.postAdded i).tally = s.tally ∧ (s.postAdded i).clients = s.clients ∧
    (s.postAdded i).claimSeq = s.claimSeq ∧ (s.postAdded i).mem = s.mem ∧ (s.postAdded i).sched = s.sched ∧
    (s.postAdded i).seats = s.seats ∧ (s.postAdded i).scanTimer = s.scanTimer ∧
    (s.postAdded i).radios = s.radios ∧ (s.postAdded i).filter = s.filter ∧
    (s.postAdded i).response = s.response ∧ (s.postAdded i).restartArmed = s.restartArmed := by
  simp [State.postAdded]

@[simp] theorem State.postAdded_reads (s : State) (i : Fin 256) :
    (s.postAdded i).op = s.op ∧ (s.postAdded i).cfg = s.cfg ∧ (s.postAdded i).active = s.active ∧
    (∀ j, (s.postAdded i).client j = s.client j) ∧ (∀ k, (s.postAdded i).seat k = s.seat k) ∧
    (∀ l, (s.postAdded i).radio l = s.radio l) := by
  simp [State.op, State.cfg, State.active, State.client, State.seat, State.radio]

@[simp] theorem State.postLeft_keeps (s : State) (i : Fin 256) (r : LeftReason) :
    (s.postLeft i r).pending = s.pending ∧ (s.postLeft i r).raised = s.raised ∧
    (s.postLeft i r).now = s.now ∧ (s.postLeft i r).runNow = s.runNow ∧ (s.postLeft i r).draws = s.draws ∧
    (s.postLeft i r).ctl = s.ctl ∧ (s.postLeft i r).line = s.line ∧ (s.postLeft i r).tally = s.tally ∧
    (s.postLeft i r).clients = s.clients ∧ (s.postLeft i r).claimSeq = s.claimSeq ∧
    (s.postLeft i r).mem = s.mem ∧ (s.postLeft i r).sched = s.sched ∧ (s.postLeft i r).seats = s.seats ∧
    (s.postLeft i r).scanTimer = s.scanTimer ∧ (s.postLeft i r).radios = s.radios ∧
    (s.postLeft i r).filter = s.filter ∧ (s.postLeft i r).response = s.response ∧
    (s.postLeft i r).restartArmed = s.restartArmed := by
  simp [State.postLeft]

@[simp] theorem State.postLeft_reads (s : State) (i : Fin 256) (r : LeftReason) :
    (s.postLeft i r).op = s.op ∧ (s.postLeft i r).cfg = s.cfg ∧ (s.postLeft i r).active = s.active ∧
    (∀ j, (s.postLeft i r).client j = s.client j) ∧ (∀ k, (s.postLeft i r).seat k = s.seat k) ∧
    (∀ l, (s.postLeft i r).radio l = s.radio l) := by
  simp [State.op, State.cfg, State.active, State.client, State.seat, State.radio]

@[simp] theorem State.postAttachment_keeps (s : State) (i : Fin 256) :
    (s.postAttachment i).pending = s.pending ∧ (s.postAttachment i).raised = s.raised ∧
    (s.postAttachment i).now = s.now ∧ (s.postAttachment i).runNow = s.runNow ∧
    (s.postAttachment i).draws = s.draws ∧ (s.postAttachment i).ctl = s.ctl ∧
    (s.postAttachment i).line = s.line ∧ (s.postAttachment i).tally = s.tally ∧
    (s.postAttachment i).clients = s.clients ∧ (s.postAttachment i).claimSeq = s.claimSeq ∧
    (s.postAttachment i).mem = s.mem ∧ (s.postAttachment i).sched = s.sched ∧
    (s.postAttachment i).seats = s.seats ∧ (s.postAttachment i).scanTimer = s.scanTimer ∧
    (s.postAttachment i).radios = s.radios ∧ (s.postAttachment i).filter = s.filter ∧
    (s.postAttachment i).response = s.response ∧ (s.postAttachment i).restartArmed = s.restartArmed := by
  simp [State.postAttachment]

@[simp] theorem State.postAttachment_reads (s : State) (i : Fin 256) :
    (s.postAttachment i).op = s.op ∧ (s.postAttachment i).cfg = s.cfg ∧
    (s.postAttachment i).active = s.active ∧ (∀ j, (s.postAttachment i).client j = s.client j) ∧
    (∀ k, (s.postAttachment i).seat k = s.seat k) ∧ (∀ l, (s.postAttachment i).radio l = s.radio l) := by
  simp [State.op, State.cfg, State.active, State.client, State.seat, State.radio]

/-! ## Packet memory -/

@[simp] theorem State.allocUplink_keeps (s : State) (len : Nat) :
    (s.allocUplink len).1.pending = s.pending ∧ (s.allocUplink len).1.raised = s.raised ∧
    (s.allocUplink len).1.now = s.now ∧ (s.allocUplink len).1.runNow = s.runNow ∧
    (s.allocUplink len).1.draws = s.draws ∧ (s.allocUplink len).1.ctl = s.ctl ∧
    (s.allocUplink len).1.line = s.line ∧ (s.allocUplink len).1.tally = s.tally ∧
    (s.allocUplink len).1.clients = s.clients ∧ (s.allocUplink len).1.claimSeq = s.claimSeq ∧
    (s.allocUplink len).1.sched = s.sched ∧ (s.allocUplink len).1.seats = s.seats ∧
    (s.allocUplink len).1.scanTimer = s.scanTimer ∧ (s.allocUplink len).1.radios = s.radios ∧
    (s.allocUplink len).1.filter = s.filter ∧ (s.allocUplink len).1.notices = s.notices ∧
    (s.allocUplink len).1.alerts = s.alerts ∧ (s.allocUplink len).1.response = s.response ∧
    (s.allocUplink len).1.restartArmed = s.restartArmed := by
  unfold State.allocUplink
  (repeat' split) <;> simp

@[simp] theorem State.allocUplink_reads (s : State) (len : Nat) :
    (s.allocUplink len).1.op = s.op ∧ (s.allocUplink len).1.cfg = s.cfg ∧
    (s.allocUplink len).1.active = s.active ∧ (∀ j, (s.allocUplink len).1.client j = s.client j) ∧
    (∀ k, (s.allocUplink len).1.seat k = s.seat k) ∧ (∀ l, (s.allocUplink len).1.radio l = s.radio l) ∧
    (∀ z, (s.allocUplink len).1.alert z = s.alert z) := by
  simp [State.op, State.cfg, State.active, State.client, State.seat, State.radio, State.alert]

@[simp] theorem State.allocDownlink_keeps (s : State) (len : Nat) :
    (s.allocDownlink len).1.pending = s.pending ∧ (s.allocDownlink len).1.raised = s.raised ∧
    (s.allocDownlink len).1.now = s.now ∧ (s.allocDownlink len).1.runNow = s.runNow ∧
    (s.allocDownlink len).1.draws = s.draws ∧ (s.allocDownlink len).1.ctl = s.ctl ∧
    (s.allocDownlink len).1.line = s.line ∧ (s.allocDownlink len).1.tally = s.tally ∧
    (s.allocDownlink len).1.clients = s.clients ∧ (s.allocDownlink len).1.claimSeq = s.claimSeq ∧
    (s.allocDownlink len).1.sched = s.sched ∧ (s.allocDownlink len).1.seats = s.seats ∧
    (s.allocDownlink len).1.scanTimer = s.scanTimer ∧ (s.allocDownlink len).1.radios = s.radios ∧
    (s.allocDownlink len).1.filter = s.filter ∧ (s.allocDownlink len).1.notices = s.notices ∧
    (s.allocDownlink len).1.alerts = s.alerts ∧ (s.allocDownlink len).1.response = s.response ∧
    (s.allocDownlink len).1.restartArmed = s.restartArmed := by
  unfold State.allocDownlink
  (repeat' split) <;> simp

@[simp] theorem State.allocDownlink_reads (s : State) (len : Nat) :
    (s.allocDownlink len).1.op = s.op ∧ (s.allocDownlink len).1.cfg = s.cfg ∧
    (s.allocDownlink len).1.active = s.active ∧ (∀ j, (s.allocDownlink len).1.client j = s.client j) ∧
    (∀ k, (s.allocDownlink len).1.seat k = s.seat k) ∧ (∀ l, (s.allocDownlink len).1.radio l = s.radio l) ∧
    (∀ z, (s.allocDownlink len).1.alert z = s.alert z) := by
  simp [State.op, State.cfg, State.active, State.client, State.seat, State.radio, State.alert]

@[simp] theorem State.releaseUplink_keeps (s : State) (blocks : List Nat) :
    (s.releaseUplink blocks).pending = s.pending ∧ (s.releaseUplink blocks).raised = s.raised ∧
    (s.releaseUplink blocks).now = s.now ∧ (s.releaseUplink blocks).runNow = s.runNow ∧
    (s.releaseUplink blocks).draws = s.draws ∧ (s.releaseUplink blocks).ctl = s.ctl ∧
    (s.releaseUplink blocks).line = s.line ∧ (s.releaseUplink blocks).tally = s.tally ∧
    (s.releaseUplink blocks).clients = s.clients ∧ (s.releaseUplink blocks).claimSeq = s.claimSeq ∧
    (s.releaseUplink blocks).sched = s.sched ∧ (s.releaseUplink blocks).seats = s.seats ∧
    (s.releaseUplink blocks).scanTimer = s.scanTimer ∧ (s.releaseUplink blocks).radios = s.radios ∧
    (s.releaseUplink blocks).filter = s.filter ∧ (s.releaseUplink blocks).counters = s.counters ∧
    (s.releaseUplink blocks).notices = s.notices ∧ (s.releaseUplink blocks).alerts = s.alerts ∧
    (s.releaseUplink blocks).response = s.response ∧
    (s.releaseUplink blocks).restartArmed = s.restartArmed := by
  simp [State.releaseUplink]

@[simp] theorem State.releaseUplink_reads (s : State) (blocks : List Nat) :
    (s.releaseUplink blocks).op = s.op ∧ (s.releaseUplink blocks).cfg = s.cfg ∧
    (s.releaseUplink blocks).active = s.active ∧ (∀ j, (s.releaseUplink blocks).client j = s.client j) ∧
    (∀ k, (s.releaseUplink blocks).seat k = s.seat k) ∧
    (∀ l, (s.releaseUplink blocks).radio l = s.radio l) ∧
    (∀ z, (s.releaseUplink blocks).alert z = s.alert z) := by
  simp [State.op, State.cfg, State.active, State.client, State.seat, State.radio, State.alert]

@[simp] theorem State.releaseDownlink_keeps (s : State) (blocks : List Nat) :
    (s.releaseDownlink blocks).pending = s.pending ∧ (s.releaseDownlink blocks).raised = s.raised ∧
    (s.releaseDownlink blocks).now = s.now ∧ (s.releaseDownlink blocks).runNow = s.runNow ∧
    (s.releaseDownlink blocks).draws = s.draws ∧ (s.releaseDownlink blocks).ctl = s.ctl ∧
    (s.releaseDownlink blocks).line = s.line ∧ (s.releaseDownlink blocks).tally = s.tally ∧
    (s.releaseDownlink blocks).clients = s.clients ∧ (s.releaseDownlink blocks).claimSeq = s.claimSeq ∧
    (s.releaseDownlink blocks).sched = s.sched ∧ (s.releaseDownlink blocks).seats = s.seats ∧
    (s.releaseDownlink blocks).scanTimer = s.scanTimer ∧ (s.releaseDownlink blocks).radios = s.radios ∧
    (s.releaseDownlink blocks).filter = s.filter ∧ (s.releaseDownlink blocks).counters = s.counters ∧
    (s.releaseDownlink blocks).notices = s.notices ∧ (s.releaseDownlink blocks).alerts = s.alerts ∧
    (s.releaseDownlink blocks).response = s.response ∧
    (s.releaseDownlink blocks).restartArmed = s.restartArmed := by
  simp [State.releaseDownlink]

@[simp] theorem State.releaseDownlink_reads (s : State) (blocks : List Nat) :
    (s.releaseDownlink blocks).op = s.op ∧ (s.releaseDownlink blocks).cfg = s.cfg ∧
    (s.releaseDownlink blocks).active = s.active ∧ (∀ j, (s.releaseDownlink blocks).client j = s.client j) ∧
    (∀ k, (s.releaseDownlink blocks).seat k = s.seat k) ∧
    (∀ l, (s.releaseDownlink blocks).radio l = s.radio l) ∧
    (∀ z, (s.releaseDownlink blocks).alert z = s.alert z) := by
  simp [State.op, State.cfg, State.active, State.client, State.seat, State.radio, State.alert]

@[simp] theorem State.storeGroup_keeps (s : State) (f : Frame) (refs : Nat) :
    (s.storeGroup f refs).pending = s.pending ∧ (s.storeGroup f refs).raised = s.raised ∧
    (s.storeGroup f refs).now = s.now ∧ (s.storeGroup f refs).runNow = s.runNow ∧
    (s.storeGroup f refs).draws = s.draws ∧ (s.storeGroup f refs).ctl = s.ctl ∧
    (s.storeGroup f refs).line = s.line ∧ (s.storeGroup f refs).tally = s.tally ∧
    (s.storeGroup f refs).clients = s.clients ∧ (s.storeGroup f refs).claimSeq = s.claimSeq ∧
    (s.storeGroup f refs).sched = s.sched ∧ (s.storeGroup f refs).seats = s.seats ∧
    (s.storeGroup f refs).scanTimer = s.scanTimer ∧ (s.storeGroup f refs).radios = s.radios ∧
    (s.storeGroup f refs).filter = s.filter ∧ (s.storeGroup f refs).counters = s.counters ∧
    (s.storeGroup f refs).notices = s.notices ∧ (s.storeGroup f refs).alerts = s.alerts ∧
    (s.storeGroup f refs).response = s.response ∧ (s.storeGroup f refs).restartArmed = s.restartArmed := by
  simp [State.storeGroup]

@[simp] theorem State.storeGroup_reads (s : State) (f : Frame) (refs : Nat) :
    (s.storeGroup f refs).op = s.op ∧ (s.storeGroup f refs).cfg = s.cfg ∧
    (s.storeGroup f refs).active = s.active ∧ (∀ j, (s.storeGroup f refs).client j = s.client j) ∧
    (∀ k, (s.storeGroup f refs).seat k = s.seat k) ∧ (∀ l, (s.storeGroup f refs).radio l = s.radio l) ∧
    (∀ z, (s.storeGroup f refs).alert z = s.alert z) := by
  simp [State.op, State.cfg, State.active, State.client, State.seat, State.radio, State.alert]

@[simp] theorem State.dropGroupRef_keeps (s : State) (f : Frame) :
    (s.dropGroupRef f).pending = s.pending ∧ (s.dropGroupRef f).raised = s.raised ∧
    (s.dropGroupRef f).now = s.now ∧ (s.dropGroupRef f).runNow = s.runNow ∧
    (s.dropGroupRef f).draws = s.draws ∧ (s.dropGroupRef f).ctl = s.ctl ∧ (s.dropGroupRef f).line = s.line ∧
    (s.dropGroupRef f).tally = s.tally ∧ (s.dropGroupRef f).clients = s.clients ∧
    (s.dropGroupRef f).claimSeq = s.claimSeq ∧ (s.dropGroupRef f).sched = s.sched ∧
    (s.dropGroupRef f).seats = s.seats ∧ (s.dropGroupRef f).scanTimer = s.scanTimer ∧
    (s.dropGroupRef f).radios = s.radios ∧ (s.dropGroupRef f).filter = s.filter ∧
    (s.dropGroupRef f).counters = s.counters ∧ (s.dropGroupRef f).notices = s.notices ∧
    (s.dropGroupRef f).alerts = s.alerts ∧ (s.dropGroupRef f).response = s.response ∧
    (s.dropGroupRef f).restartArmed = s.restartArmed := by
  unfold State.dropGroupRef
  (repeat' split) <;> simp

@[simp] theorem State.dropGroupRef_reads (s : State) (f : Frame) :
    (s.dropGroupRef f).op = s.op ∧ (s.dropGroupRef f).cfg = s.cfg ∧ (s.dropGroupRef f).active = s.active ∧
    (∀ j, (s.dropGroupRef f).client j = s.client j) ∧ (∀ k, (s.dropGroupRef f).seat k = s.seat k) ∧
    (∀ l, (s.dropGroupRef f).radio l = s.radio l) ∧ (∀ z, (s.dropGroupRef f).alert z = s.alert z) := by
  simp [State.op, State.cfg, State.active, State.client, State.seat, State.radio, State.alert]

@[simp] theorem State.endPosition_keeps (s : State) (pos : EgressPos) :
    (s.endPosition pos).pending = s.pending ∧ (s.endPosition pos).raised = s.raised ∧
    (s.endPosition pos).now = s.now ∧ (s.endPosition pos).runNow = s.runNow ∧
    (s.endPosition pos).draws = s.draws ∧ (s.endPosition pos).ctl = s.ctl ∧
    (s.endPosition pos).line = s.line ∧ (s.endPosition pos).tally = s.tally ∧
    (s.endPosition pos).clients = s.clients ∧ (s.endPosition pos).claimSeq = s.claimSeq ∧
    (s.endPosition pos).sched = s.sched ∧ (s.endPosition pos).seats = s.seats ∧
    (s.endPosition pos).scanTimer = s.scanTimer ∧ (s.endPosition pos).radios = s.radios ∧
    (s.endPosition pos).filter = s.filter ∧ (s.endPosition pos).counters = s.counters ∧
    (s.endPosition pos).notices = s.notices ∧ (s.endPosition pos).alerts = s.alerts ∧
    (s.endPosition pos).response = s.response ∧ (s.endPosition pos).restartArmed = s.restartArmed := by
  unfold State.endPosition
  (repeat' split) <;> simp

@[simp] theorem State.endPosition_reads (s : State) (pos : EgressPos) :
    (s.endPosition pos).op = s.op ∧ (s.endPosition pos).cfg = s.cfg ∧
    (s.endPosition pos).active = s.active ∧ (∀ j, (s.endPosition pos).client j = s.client j) ∧
    (∀ k, (s.endPosition pos).seat k = s.seat k) ∧ (∀ l, (s.endPosition pos).radio l = s.radio l) ∧
    (∀ z, (s.endPosition pos).alert z = s.alert z) := by
  simp [State.op, State.cfg, State.active, State.client, State.seat, State.radio, State.alert]

@[simp] theorem State.endPositions_keeps (s : State) (q : List EgressPos) (c : Counter) :
    (s.endPositions q c).pending = s.pending ∧ (s.endPositions q c).raised = s.raised ∧
    (s.endPositions q c).now = s.now ∧ (s.endPositions q c).runNow = s.runNow ∧
    (s.endPositions q c).draws = s.draws ∧ (s.endPositions q c).ctl = s.ctl ∧
    (s.endPositions q c).line = s.line ∧ (s.endPositions q c).tally = s.tally ∧
    (s.endPositions q c).clients = s.clients ∧ (s.endPositions q c).claimSeq = s.claimSeq ∧
    (s.endPositions q c).sched = s.sched ∧ (s.endPositions q c).seats = s.seats ∧
    (s.endPositions q c).scanTimer = s.scanTimer ∧ (s.endPositions q c).radios = s.radios ∧
    (s.endPositions q c).filter = s.filter ∧ (s.endPositions q c).notices = s.notices ∧
    (s.endPositions q c).alerts = s.alerts ∧ (s.endPositions q c).response = s.response ∧
    (s.endPositions q c).restartArmed = s.restartArmed := by
  unfold State.endPositions
  (repeat' apply And.intro) <;> exact State.foldl_keeps _ _ (by intros; simp) _ _

@[simp] theorem State.endPositions_reads (s : State) (q : List EgressPos) (c : Counter) :
    (s.endPositions q c).op = s.op ∧ (s.endPositions q c).cfg = s.cfg ∧
    (s.endPositions q c).active = s.active ∧ (∀ j, (s.endPositions q c).client j = s.client j) ∧
    (∀ k, (s.endPositions q c).seat k = s.seat k) ∧ (∀ l, (s.endPositions q c).radio l = s.radio l) ∧
    (∀ z, (s.endPositions q c).alert z = s.alert z) := by
  simp [State.op, State.cfg, State.active, State.client, State.seat, State.radio, State.alert]

/-! ## The transmit sides -/

@[simp] theorem State.seatServe_keeps (p : Fin 32) (q : List EgressPos) (s : State) :
    (State.seatServe p q s).pending = s.pending ∧ (State.seatServe p q s).raised = s.raised ∧
    (State.seatServe p q s).now = s.now ∧ (State.seatServe p q s).runNow = s.runNow ∧
    (State.seatServe p q s).draws = s.draws ∧ (State.seatServe p q s).ctl = s.ctl ∧
    (State.seatServe p q s).line = s.line ∧ (State.seatServe p q s).tally = s.tally ∧
    (State.seatServe p q s).clients = s.clients ∧ (State.seatServe p q s).claimSeq = s.claimSeq ∧
    (State.seatServe p q s).sched = s.sched ∧ (State.seatServe p q s).scanTimer = s.scanTimer ∧
    (State.seatServe p q s).radios = s.radios ∧ (State.seatServe p q s).filter = s.filter ∧
    (State.seatServe p q s).notices = s.notices ∧ (State.seatServe p q s).alerts = s.alerts ∧
    (State.seatServe p q s).response = s.response ∧
    (State.seatServe p q s).restartArmed = s.restartArmed := by
  induction q generalizing s with
  | nil => simp [State.seatServe]
  | cons pos rest ih =>
    unfold State.seatServe
    (repeat' split) <;> simp [ih]

@[simp] theorem State.seatServe_reads (p : Fin 32) (q : List EgressPos) (s : State) :
    (State.seatServe p q s).op = s.op ∧ (State.seatServe p q s).cfg = s.cfg ∧
    (State.seatServe p q s).active = s.active ∧ (∀ j, (State.seatServe p q s).client j = s.client j) ∧
    (∀ l, (State.seatServe p q s).radio l = s.radio l) ∧
    (∀ z, (State.seatServe p q s).alert z = s.alert z) := by
  simp [State.op, State.cfg, State.active, State.client, State.radio, State.alert]

@[simp] theorem State.seatLook_keeps (s : State) (p : Fin 32) :
    (s.seatLook p).pending = s.pending ∧ (s.seatLook p).raised = s.raised ∧ (s.seatLook p).now = s.now ∧
    (s.seatLook p).runNow = s.runNow ∧ (s.seatLook p).draws = s.draws ∧ (s.seatLook p).ctl = s.ctl ∧
    (s.seatLook p).line = s.line ∧ (s.seatLook p).tally = s.tally ∧ (s.seatLook p).clients = s.clients ∧
    (s.seatLook p).claimSeq = s.claimSeq ∧ (s.seatLook p).sched = s.sched ∧
    (s.seatLook p).scanTimer = s.scanTimer ∧ (s.seatLook p).radios = s.radios ∧
    (s.seatLook p).filter = s.filter ∧ (s.seatLook p).notices = s.notices ∧
    (s.seatLook p).alerts = s.alerts ∧ (s.seatLook p).response = s.response ∧
    (s.seatLook p).restartArmed = s.restartArmed := by
  unfold State.seatLook
  (repeat' split) <;> simp

@[simp] theorem State.seatLook_reads (s : State) (p : Fin 32) :
    (s.seatLook p).op = s.op ∧ (s.seatLook p).cfg = s.cfg ∧ (s.seatLook p).active = s.active ∧
    (∀ j, (s.seatLook p).client j = s.client j) ∧ (∀ l, (s.seatLook p).radio l = s.radio l) ∧
    (∀ z, (s.seatLook p).alert z = s.alert z) := by
  simp [State.op, State.cfg, State.active, State.client, State.radio, State.alert]

@[simp] theorem State.radioServe_keeps (r : Fin 6) (q : List EgressPos) (s : State) :
    (State.radioServe r q s).pending = s.pending ∧ (State.radioServe r q s).raised = s.raised ∧
    (State.radioServe r q s).now = s.now ∧ (State.radioServe r q s).runNow = s.runNow ∧
    (State.radioServe r q s).draws = s.draws ∧ (State.radioServe r q s).ctl = s.ctl ∧
    (State.radioServe r q s).line = s.line ∧ (State.radioServe r q s).tally = s.tally ∧
    (State.radioServe r q s).clients = s.clients ∧ (State.radioServe r q s).claimSeq = s.claimSeq ∧
    (State.radioServe r q s).sched = s.sched ∧ (State.radioServe r q s).seats = s.seats ∧
    (State.radioServe r q s).scanTimer = s.scanTimer ∧ (State.radioServe r q s).filter = s.filter ∧
    (State.radioServe r q s).notices = s.notices ∧ (State.radioServe r q s).alerts = s.alerts ∧
    (State.radioServe r q s).response = s.response ∧
    (State.radioServe r q s).restartArmed = s.restartArmed := by
  induction q generalizing s with
  | nil => simp [State.radioServe]
  | cons pos rest ih =>
    unfold State.radioServe
    (repeat' split) <;> simp [ih]

@[simp] theorem State.radioServe_reads (r : Fin 6) (q : List EgressPos) (s : State) :
    (State.radioServe r q s).op = s.op ∧ (State.radioServe r q s).cfg = s.cfg ∧
    (State.radioServe r q s).active = s.active ∧ (∀ j, (State.radioServe r q s).client j = s.client j) ∧
    (∀ k, (State.radioServe r q s).seat k = s.seat k) ∧
    (∀ z, (State.radioServe r q s).alert z = s.alert z) := by
  simp [State.op, State.cfg, State.active, State.client, State.seat, State.alert]

@[simp] theorem State.radioLook_keeps (s : State) (r : Fin 6) :
    (s.radioLook r).pending = s.pending ∧ (s.radioLook r).raised = s.raised ∧ (s.radioLook r).now = s.now ∧
    (s.radioLook r).runNow = s.runNow ∧ (s.radioLook r).draws = s.draws ∧ (s.radioLook r).ctl = s.ctl ∧
    (s.radioLook r).line = s.line ∧ (s.radioLook r).tally = s.tally ∧ (s.radioLook r).clients = s.clients ∧
    (s.radioLook r).claimSeq = s.claimSeq ∧ (s.radioLook r).sched = s.sched ∧
    (s.radioLook r).seats = s.seats ∧ (s.radioLook r).scanTimer = s.scanTimer ∧
    (s.radioLook r).filter = s.filter ∧ (s.radioLook r).notices = s.notices ∧
    (s.radioLook r).alerts = s.alerts ∧ (s.radioLook r).response = s.response ∧
    (s.radioLook r).restartArmed = s.restartArmed := by
  unfold State.radioLook
  (repeat' split) <;> simp

@[simp] theorem State.radioLook_reads (s : State) (r : Fin 6) :
    (s.radioLook r).op = s.op ∧ (s.radioLook r).cfg = s.cfg ∧ (s.radioLook r).active = s.active ∧
    (∀ j, (s.radioLook r).client j = s.client j) ∧ (∀ k, (s.radioLook r).seat k = s.seat k) ∧
    (∀ z, (s.radioLook r).alert z = s.alert z) := by
  simp [State.op, State.cfg, State.active, State.client, State.seat, State.alert]

@[simp] theorem State.judge_keeps (s : State) (p : Fin 32) :
    (s.judge p).pending = s.pending ∧ (s.judge p).raised = s.raised ∧ (s.judge p).now = s.now ∧
    (s.judge p).runNow = s.runNow ∧ (s.judge p).draws = s.draws ∧ (s.judge p).ctl = s.ctl ∧
    (s.judge p).line = s.line ∧ (s.judge p).tally = s.tally ∧ (s.judge p).clients = s.clients ∧
    (s.judge p).claimSeq = s.claimSeq ∧ (s.judge p).sched = s.sched ∧ (s.judge p).scanTimer = s.scanTimer ∧
    (s.judge p).radios = s.radios ∧ (s.judge p).filter = s.filter ∧ (s.judge p).notices = s.notices ∧
    (s.judge p).alerts = s.alerts ∧ (s.judge p).response = s.response ∧
    (s.judge p).restartArmed = s.restartArmed := by
  unfold State.judge
  (repeat' split) <;> simp

@[simp] theorem State.judge_reads (s : State) (p : Fin 32) :
    (s.judge p).op = s.op ∧ (s.judge p).cfg = s.cfg ∧ (s.judge p).active = s.active ∧
    (∀ j, (s.judge p).client j = s.client j) ∧ (∀ l, (s.judge p).radio l = s.radio l) ∧
    (∀ z, (s.judge p).alert z = s.alert z) := by
  simp [State.op, State.cfg, State.active, State.client, State.radio, State.alert]

@[simp] theorem State.judgeAt_keeps (s : State) (a : Attachment) :
    (s.judgeAt a).pending = s.pending ∧ (s.judgeAt a).raised = s.raised ∧ (s.judgeAt a).now = s.now ∧
    (s.judgeAt a).runNow = s.runNow ∧ (s.judgeAt a).draws = s.draws ∧ (s.judgeAt a).ctl = s.ctl ∧
    (s.judgeAt a).line = s.line ∧ (s.judgeAt a).tally = s.tally ∧ (s.judgeAt a).clients = s.clients ∧
    (s.judgeAt a).claimSeq = s.claimSeq ∧ (s.judgeAt a).sched = s.sched ∧
    (s.judgeAt a).scanTimer = s.scanTimer ∧ (s.judgeAt a).radios = s.radios ∧
    (s.judgeAt a).filter = s.filter ∧ (s.judgeAt a).notices = s.notices ∧ (s.judgeAt a).alerts = s.alerts ∧
    (s.judgeAt a).response = s.response ∧ (s.judgeAt a).restartArmed = s.restartArmed := by
  unfold State.judgeAt
  (repeat' split) <;> simp

@[simp] theorem State.judgeAt_reads (s : State) (a : Attachment) :
    (s.judgeAt a).op = s.op ∧ (s.judgeAt a).cfg = s.cfg ∧ (s.judgeAt a).active = s.active ∧
    (∀ j, (s.judgeAt a).client j = s.client j) ∧ (∀ l, (s.judgeAt a).radio l = s.radio l) ∧
    (∀ z, (s.judgeAt a).alert z = s.alert z) := by
  simp [State.op, State.cfg, State.active, State.client, State.radio, State.alert]

/-! ## The client table -/

@[simp] theorem State.freeQueue_keeps (s : State) (i : Fin 256) :
    (s.freeQueue i).pending = s.pending ∧ (s.freeQueue i).raised = s.raised ∧ (s.freeQueue i).now = s.now ∧
    (s.freeQueue i).runNow = s.runNow ∧ (s.freeQueue i).draws = s.draws ∧ (s.freeQueue i).ctl = s.ctl ∧
    (s.freeQueue i).line = s.line ∧ (s.freeQueue i).tally = s.tally ∧
    (s.freeQueue i).claimSeq = s.claimSeq ∧ (s.freeQueue i).sched = s.sched ∧
    (s.freeQueue i).seats = s.seats ∧ (s.freeQueue i).scanTimer = s.scanTimer ∧
    (s.freeQueue i).radios = s.radios ∧ (s.freeQueue i).filter = s.filter ∧
    (s.freeQueue i).notices = s.notices ∧ (s.freeQueue i).alerts = s.alerts ∧
    (s.freeQueue i).response = s.response ∧ (s.freeQueue i).restartArmed = s.restartArmed := by
  simp [State.freeQueue]

@[simp] theorem State.freeQueue_reads (s : State) (i : Fin 256) :
    (s.freeQueue i).op = s.op ∧ (s.freeQueue i).cfg = s.cfg ∧ (s.freeQueue i).active = s.active ∧
    (∀ k, (s.freeQueue i).seat k = s.seat k) ∧ (∀ l, (s.freeQueue i).radio l = s.radio l) ∧
    (∀ z, (s.freeQueue i).alert z = s.alert z) := by
  simp [State.op, State.cfg, State.active, State.seat, State.radio, State.alert]

@[simp] theorem State.freeEntry_keeps (s : State) (i : Fin 256) :
    (s.freeEntry i).pending = s.pending ∧ (s.freeEntry i).raised = s.raised ∧ (s.freeEntry i).now = s.now ∧
    (s.freeEntry i).runNow = s.runNow ∧ (s.freeEntry i).draws = s.draws ∧ (s.freeEntry i).ctl = s.ctl ∧
    (s.freeEntry i).line = s.line ∧ (s.freeEntry i).tally = s.tally ∧
    (s.freeEntry i).claimSeq = s.claimSeq ∧ (s.freeEntry i).sched = s.sched ∧
    (s.freeEntry i).scanTimer = s.scanTimer ∧ (s.freeEntry i).radios = s.radios ∧
    (s.freeEntry i).filter = s.filter ∧ (s.freeEntry i).notices = s.notices ∧
    (s.freeEntry i).alerts = s.alerts ∧ (s.freeEntry i).response = s.response ∧
    (s.freeEntry i).restartArmed = s.restartArmed := by
  unfold State.freeEntry
  (repeat' split) <;> simp

@[simp] theorem State.freeEntry_reads (s : State) (i : Fin 256) :
    (s.freeEntry i).op = s.op ∧ (s.freeEntry i).cfg = s.cfg ∧ (s.freeEntry i).active = s.active ∧
    (∀ l, (s.freeEntry i).radio l = s.radio l) ∧ (∀ z, (s.freeEntry i).alert z = s.alert z) := by
  simp [State.op, State.cfg, State.active, State.radio, State.alert]

@[simp] theorem State.freeWithNotice_keeps (s : State) (i : Fin 256) (r : LeftReason) (c : Counter) :
    (s.freeWithNotice i r c).pending = s.pending ∧ (s.freeWithNotice i r c).raised = s.raised ∧
    (s.freeWithNotice i r c).now = s.now ∧ (s.freeWithNotice i r c).runNow = s.runNow ∧
    (s.freeWithNotice i r c).draws = s.draws ∧ (s.freeWithNotice i r c).ctl = s.ctl ∧
    (s.freeWithNotice i r c).line = s.line ∧ (s.freeWithNotice i r c).tally = s.tally ∧
    (s.freeWithNotice i r c).claimSeq = s.claimSeq ∧ (s.freeWithNotice i r c).sched = s.sched ∧
    (s.freeWithNotice i r c).scanTimer = s.scanTimer ∧ (s.freeWithNotice i r c).radios = s.radios ∧
    (s.freeWithNotice i r c).filter = s.filter ∧ (s.freeWithNotice i r c).response = s.response ∧
    (s.freeWithNotice i r c).restartArmed = s.restartArmed := by
  simp [State.freeWithNotice]

@[simp] theorem State.freeWithNotice_reads (s : State) (i : Fin 256) (r : LeftReason) (c : Counter) :
    (s.freeWithNotice i r c).op = s.op ∧ (s.freeWithNotice i r c).cfg = s.cfg ∧
    (s.freeWithNotice i r c).active = s.active ∧ (∀ l, (s.freeWithNotice i r c).radio l = s.radio l) := by
  simp [State.op, State.cfg, State.active, State.radio]

@[simp] theorem State.endDrainIfEmpty_keeps (s : State) (i : Fin 256) :
    (s.endDrainIfEmpty i).pending = s.pending ∧ (s.endDrainIfEmpty i).raised = s.raised ∧
    (s.endDrainIfEmpty i).now = s.now ∧ (s.endDrainIfEmpty i).runNow = s.runNow ∧
    (s.endDrainIfEmpty i).draws = s.draws ∧ (s.endDrainIfEmpty i).ctl = s.ctl ∧
    (s.endDrainIfEmpty i).line = s.line ∧ (s.endDrainIfEmpty i).tally = s.tally ∧
    (s.endDrainIfEmpty i).claimSeq = s.claimSeq ∧ (s.endDrainIfEmpty i).sched = s.sched ∧
    (s.endDrainIfEmpty i).scanTimer = s.scanTimer ∧ (s.endDrainIfEmpty i).radios = s.radios ∧
    (s.endDrainIfEmpty i).filter = s.filter ∧ (s.endDrainIfEmpty i).response = s.response ∧
    (s.endDrainIfEmpty i).restartArmed = s.restartArmed := by
  unfold State.endDrainIfEmpty
  (repeat' split) <;> simp

@[simp] theorem State.endDrainIfEmpty_reads (s : State) (i : Fin 256) :
    (s.endDrainIfEmpty i).op = s.op ∧ (s.endDrainIfEmpty i).cfg = s.cfg ∧
    (s.endDrainIfEmpty i).active = s.active ∧ (∀ l, (s.endDrainIfEmpty i).radio l = s.radio l) := by
  simp [State.op, State.cfg, State.active, State.radio]

@[simp] theorem State.loseEntry_keeps (s : State) (i : Fin 256) :
    (s.loseEntry i).pending = s.pending ∧ (s.loseEntry i).raised = s.raised ∧ (s.loseEntry i).now = s.now ∧
    (s.loseEntry i).runNow = s.runNow ∧ (s.loseEntry i).draws = s.draws ∧ (s.loseEntry i).ctl = s.ctl ∧
    (s.loseEntry i).line = s.line ∧ (s.loseEntry i).tally = s.tally ∧
    (s.loseEntry i).claimSeq = s.claimSeq ∧ (s.loseEntry i).sched = s.sched ∧
    (s.loseEntry i).scanTimer = s.scanTimer ∧ (s.loseEntry i).radios = s.radios ∧
    (s.loseEntry i).filter = s.filter ∧ (s.loseEntry i).response = s.response ∧
    (s.loseEntry i).restartArmed = s.restartArmed := by
  simp [State.loseEntry]

@[simp] theorem State.loseEntry_reads (s : State) (i : Fin 256) :
    (s.loseEntry i).op = s.op ∧ (s.loseEntry i).cfg = s.cfg ∧ (s.loseEntry i).active = s.active ∧
    (∀ l, (s.loseEntry i).radio l = s.radio l) := by
  simp [State.op, State.cfg, State.active, State.radio]

@[simp] theorem State.loseAttachment_keeps (s : State) (a : Attachment) :
    (s.loseAttachment a).pending = s.pending ∧ (s.loseAttachment a).raised = s.raised ∧
    (s.loseAttachment a).now = s.now ∧ (s.loseAttachment a).runNow = s.runNow ∧
    (s.loseAttachment a).draws = s.draws ∧ (s.loseAttachment a).ctl = s.ctl ∧
    (s.loseAttachment a).line = s.line ∧ (s.loseAttachment a).tally = s.tally ∧
    (s.loseAttachment a).claimSeq = s.claimSeq ∧ (s.loseAttachment a).sched = s.sched ∧
    (s.loseAttachment a).scanTimer = s.scanTimer ∧ (s.loseAttachment a).radios = s.radios ∧
    (s.loseAttachment a).filter = s.filter ∧ (s.loseAttachment a).response = s.response ∧
    (s.loseAttachment a).restartArmed = s.restartArmed := by
  unfold State.loseAttachment
  (repeat' apply And.intro) <;> exact State.foldl_keeps _ _ (by intros; split <;> simp) _ _

@[simp] theorem State.loseAttachment_reads (s : State) (a : Attachment) :
    (s.loseAttachment a).op = s.op ∧ (s.loseAttachment a).cfg = s.cfg ∧
    (s.loseAttachment a).active = s.active ∧ (∀ l, (s.loseAttachment a).radio l = s.radio l) := by
  simp [State.op, State.cfg, State.active, State.radio]

@[simp] theorem State.heard_keeps (s : State) (i : Fin 256) :
    (s.heard i).pending = s.pending ∧ (s.heard i).raised = s.raised ∧ (s.heard i).now = s.now ∧
    (s.heard i).runNow = s.runNow ∧ (s.heard i).draws = s.draws ∧ (s.heard i).ctl = s.ctl ∧
    (s.heard i).line = s.line ∧ (s.heard i).tally = s.tally ∧ (s.heard i).claimSeq = s.claimSeq ∧
    (s.heard i).mem = s.mem ∧ (s.heard i).sched = s.sched ∧ (s.heard i).seats = s.seats ∧
    (s.heard i).scanTimer = s.scanTimer ∧ (s.heard i).radios = s.radios ∧ (s.heard i).filter = s.filter ∧
    (s.heard i).counters = s.counters ∧ (s.heard i).notices = s.notices ∧ (s.heard i).alerts = s.alerts ∧
    (s.heard i).response = s.response ∧ (s.heard i).restartArmed = s.restartArmed := by
  simp [State.heard]

@[simp] theorem State.heard_reads (s : State) (i : Fin 256) :
    (s.heard i).op = s.op ∧ (s.heard i).cfg = s.cfg ∧ (s.heard i).active = s.active ∧
    (∀ k, (s.heard i).seat k = s.seat k) ∧ (∀ l, (s.heard i).radio l = s.radio l) ∧
    (∀ z, (s.heard i).alert z = s.alert z) := by
  simp [State.op, State.cfg, State.active, State.seat, State.radio, State.alert]

/-! ## The scheduler -/

@[simp] theorem State.countHandover_keeps (s : State) (ph : Phase) (b : Nat) :
    (s.countHandover ph b).pending = s.pending ∧ (s.countHandover ph b).raised = s.raised ∧
    (s.countHandover ph b).now = s.now ∧ (s.countHandover ph b).runNow = s.runNow ∧
    (s.countHandover ph b).draws = s.draws ∧ (s.countHandover ph b).ctl = s.ctl ∧
    (s.countHandover ph b).line = s.line ∧ (s.countHandover ph b).tally = s.tally ∧
    (s.countHandover ph b).clients = s.clients ∧ (s.countHandover ph b).claimSeq = s.claimSeq ∧
    (s.countHandover ph b).mem = s.mem ∧ (s.countHandover ph b).sched = s.sched ∧
    (s.countHandover ph b).seats = s.seats ∧ (s.countHandover ph b).scanTimer = s.scanTimer ∧
    (s.countHandover ph b).radios = s.radios ∧ (s.countHandover ph b).filter = s.filter ∧
    (s.countHandover ph b).notices = s.notices ∧ (s.countHandover ph b).alerts = s.alerts ∧
    (s.countHandover ph b).response = s.response ∧
    (s.countHandover ph b).restartArmed = s.restartArmed := by
  unfold State.countHandover
  (repeat' split) <;> simp

@[simp] theorem State.countHandover_reads (s : State) (ph : Phase) (b : Nat) :
    (s.countHandover ph b).op = s.op ∧ (s.countHandover ph b).cfg = s.cfg ∧
    (s.countHandover ph b).active = s.active ∧ (∀ j, (s.countHandover ph b).client j = s.client j) ∧
    (∀ k, (s.countHandover ph b).seat k = s.seat k) ∧ (∀ l, (s.countHandover ph b).radio l = s.radio l) ∧
    (∀ z, (s.countHandover ph b).alert z = s.alert z) := by
  simp [State.op, State.cfg, State.active, State.client, State.seat, State.radio, State.alert]

@[simp] theorem State.handover_keeps (s : State) (i : Fin 256) (ph : Phase) (rec : UplinkRec) :
    (s.handover i ph rec).pending = s.pending ∧ (s.handover i ph rec).raised = s.raised ∧
    (s.handover i ph rec).now = s.now ∧ (s.handover i ph rec).runNow = s.runNow ∧
    (s.handover i ph rec).draws = s.draws ∧ (s.handover i ph rec).ctl = s.ctl ∧
    (s.handover i ph rec).line = s.line ∧ (s.handover i ph rec).tally = s.tally ∧
    (s.handover i ph rec).claimSeq = s.claimSeq ∧ (s.handover i ph rec).scanTimer = s.scanTimer ∧
    (s.handover i ph rec).radios = s.radios ∧ (s.handover i ph rec).filter = s.filter ∧
    (s.handover i ph rec).response = s.response ∧ (s.handover i ph rec).restartArmed = s.restartArmed := by
  simp [State.handover]

@[simp] theorem State.handover_reads (s : State) (i : Fin 256) (ph : Phase) (rec : UplinkRec) :
    (s.handover i ph rec).op = s.op ∧ (s.handover i ph rec).cfg = s.cfg ∧
    (s.handover i ph rec).active = s.active ∧ (∀ l, (s.handover i ph rec).radio l = s.radio l) := by
  simp [State.op, State.cfg, State.active, State.radio]

@[simp] theorem State.selection_keeps (s : State) :
    (s.selection).1.pending = s.pending ∧ (s.selection).1.raised = s.raised ∧ (s.selection).1.now = s.now ∧
    (s.selection).1.runNow = s.runNow ∧ (s.selection).1.draws = s.draws ∧ (s.selection).1.ctl = s.ctl ∧
    (s.selection).1.line = s.line ∧ (s.selection).1.tally = s.tally ∧
    (s.selection).1.claimSeq = s.claimSeq ∧ (s.selection).1.scanTimer = s.scanTimer ∧
    (s.selection).1.radios = s.radios ∧ (s.selection).1.filter = s.filter ∧
    (s.selection).1.response = s.response ∧ (s.selection).1.restartArmed = s.restartArmed := by
  unfold State.selection
  (repeat' split) <;> simp

@[simp] theorem State.selection_reads (s : State) :
    (s.selection).1.op = s.op ∧ (s.selection).1.cfg = s.cfg ∧ (s.selection).1.active = s.active ∧
    (∀ l, (s.selection).1.radio l = s.radio l) := by
  simp [State.op, State.cfg, State.active, State.radio]

@[simp] theorem State.refill_keeps (s : State) (aeff : Nat) :
    (s.refill aeff).pending = s.pending ∧ (s.refill aeff).raised = s.raised ∧ (s.refill aeff).now = s.now ∧
    (s.refill aeff).runNow = s.runNow ∧ (s.refill aeff).draws = s.draws ∧ (s.refill aeff).ctl = s.ctl ∧
    (s.refill aeff).line = s.line ∧ (s.refill aeff).tally = s.tally ∧ (s.refill aeff).clients = s.clients ∧
    (s.refill aeff).claimSeq = s.claimSeq ∧ (s.refill aeff).mem = s.mem ∧ (s.refill aeff).seats = s.seats ∧
    (s.refill aeff).scanTimer = s.scanTimer ∧ (s.refill aeff).radios = s.radios ∧
    (s.refill aeff).filter = s.filter ∧ (s.refill aeff).notices = s.notices ∧
    (s.refill aeff).alerts = s.alerts ∧ (s.refill aeff).response = s.response ∧
    (s.refill aeff).restartArmed = s.restartArmed := by
  unfold State.refill
  dsimp only
  (repeat' split) <;> simp

@[simp] theorem State.refill_reads (s : State) (aeff : Nat) :
    (s.refill aeff).op = s.op ∧ (s.refill aeff).cfg = s.cfg ∧ (s.refill aeff).active = s.active ∧
    (∀ j, (s.refill aeff).client j = s.client j) ∧ (∀ k, (s.refill aeff).seat k = s.seat k) ∧
    (∀ l, (s.refill aeff).radio l = s.radio l) ∧ (∀ z, (s.refill aeff).alert z = s.alert z) := by
  simp [State.op, State.cfg, State.active, State.client, State.seat, State.radio, State.alert]

@[simp] theorem State.allotmentUpdate_keeps (s : State) (a : Nat) (w : Nat) :
    (s.allotmentUpdate a w).pending = s.pending ∧ (s.allotmentUpdate a w).raised = s.raised ∧
    (s.allotmentUpdate a w).now = s.now ∧ (s.allotmentUpdate a w).runNow = s.runNow ∧
    (s.allotmentUpdate a w).draws = s.draws ∧ (s.allotmentUpdate a w).ctl = s.ctl ∧
    (s.allotmentUpdate a w).line = s.line ∧ (s.allotmentUpdate a w).tally = s.tally ∧
    (s.allotmentUpdate a w).claimSeq = s.claimSeq ∧ (s.allotmentUpdate a w).mem = s.mem ∧
    (s.allotmentUpdate a w).seats = s.seats ∧ (s.allotmentUpdate a w).scanTimer = s.scanTimer ∧
    (s.allotmentUpdate a w).radios = s.radios ∧ (s.allotmentUpdate a w).filter = s.filter ∧
    (s.allotmentUpdate a w).notices = s.notices ∧ (s.allotmentUpdate a w).alerts = s.alerts ∧
    (s.allotmentUpdate a w).response = s.response ∧
    (s.allotmentUpdate a w).restartArmed = s.restartArmed := by
  simp [State.allotmentUpdate]

@[simp] theorem State.allotmentUpdate_reads (s : State) (a : Nat) (w : Nat) :
    (s.allotmentUpdate a w).op = s.op ∧ (s.allotmentUpdate a w).cfg = s.cfg ∧
    (s.allotmentUpdate a w).active = s.active ∧ (∀ k, (s.allotmentUpdate a w).seat k = s.seat k) ∧
    (∀ l, (s.allotmentUpdate a w).radio l = s.radio l) ∧
    (∀ z, (s.allotmentUpdate a w).alert z = s.alert z) := by
  simp [State.op, State.cfg, State.active, State.seat, State.radio, State.alert]

/-! ## The line interface -/

@[simp] theorem State.ownCarrierEnds_keeps (s : State) :
    (s.ownCarrierEnds).pending = s.pending ∧ (s.ownCarrierEnds).raised = s.raised ∧
    (s.ownCarrierEnds).now = s.now ∧ (s.ownCarrierEnds).runNow = s.runNow ∧
    (s.ownCarrierEnds).draws = s.draws ∧ (s.ownCarrierEnds).ctl = s.ctl ∧
    (s.ownCarrierEnds).tally = s.tally ∧ (s.ownCarrierEnds).clients = s.clients ∧
    (s.ownCarrierEnds).claimSeq = s.claimSeq ∧ (s.ownCarrierEnds).mem = s.mem ∧
    (s.ownCarrierEnds).sched = s.sched ∧ (s.ownCarrierEnds).seats = s.seats ∧
    (s.ownCarrierEnds).scanTimer = s.scanTimer ∧ (s.ownCarrierEnds).radios = s.radios ∧
    (s.ownCarrierEnds).filter = s.filter ∧ (s.ownCarrierEnds).counters = s.counters ∧
    (s.ownCarrierEnds).notices = s.notices ∧ (s.ownCarrierEnds).alerts = s.alerts ∧
    (s.ownCarrierEnds).response = s.response ∧ (s.ownCarrierEnds).restartArmed = s.restartArmed := by
  unfold State.ownCarrierEnds
  (repeat' split) <;> simp

@[simp] theorem State.ownCarrierEnds_reads (s : State) :
    (s.ownCarrierEnds).op = s.op ∧ (s.ownCarrierEnds).cfg = s.cfg ∧ (s.ownCarrierEnds).active = s.active ∧
    (∀ j, (s.ownCarrierEnds).client j = s.client j) ∧ (∀ k, (s.ownCarrierEnds).seat k = s.seat k) ∧
    (∀ l, (s.ownCarrierEnds).radio l = s.radio l) ∧ (∀ z, (s.ownCarrierEnds).alert z = s.alert z) := by
  simp [State.op, State.cfg, State.active, State.client, State.seat, State.radio, State.alert]

@[simp] theorem State.sendOpportunity_keeps (s : State) :
    (s.sendOpportunity).pending = s.pending ∧ (s.sendOpportunity).raised = s.raised ∧
    (s.sendOpportunity).now = s.now ∧ (s.sendOpportunity).runNow = s.runNow ∧
    (s.sendOpportunity).draws = s.draws ∧ (s.sendOpportunity).ctl = s.ctl ∧
    (s.sendOpportunity).tally = s.tally ∧ (s.sendOpportunity).claimSeq = s.claimSeq ∧
    (s.sendOpportunity).scanTimer = s.scanTimer ∧ (s.sendOpportunity).radios = s.radios ∧
    (s.sendOpportunity).filter = s.filter ∧ (s.sendOpportunity).response = s.response ∧
    (s.sendOpportunity).restartArmed = s.restartArmed := by
  unfold State.sendOpportunity
  (repeat' split) <;> first | (simp; done) | (rename_i h; have e := congrArg Prod.fst h; simp only at e; subst e; simp)

@[simp] theorem State.sendOpportunity_reads (s : State) :
    (s.sendOpportunity).op = s.op ∧ (s.sendOpportunity).cfg = s.cfg ∧
    (s.sendOpportunity).active = s.active ∧ (∀ l, (s.sendOpportunity).radio l = s.radio l) := by
  simp [State.op, State.cfg, State.active, State.radio]

@[simp] theorem State.placeTally_keeps (s : State) (t : CtrlRec) :
    (s.placeTally t).pending = s.pending ∧ (s.placeTally t).raised = s.raised ∧
    (s.placeTally t).now = s.now ∧ (s.placeTally t).runNow = s.runNow ∧ (s.placeTally t).draws = s.draws ∧
    (s.placeTally t).ctl = s.ctl ∧ (s.placeTally t).tally = s.tally ∧ (s.placeTally t).clients = s.clients ∧
    (s.placeTally t).claimSeq = s.claimSeq ∧ (s.placeTally t).mem = s.mem ∧
    (s.placeTally t).sched = s.sched ∧ (s.placeTally t).seats = s.seats ∧
    (s.placeTally t).scanTimer = s.scanTimer ∧ (s.placeTally t).radios = s.radios ∧
    (s.placeTally t).filter = s.filter ∧ (s.placeTally t).notices = s.notices ∧
    (s.placeTally t).alerts = s.alerts ∧ (s.placeTally t).response = s.response ∧
    (s.placeTally t).restartArmed = s.restartArmed := by
  unfold State.placeTally
  (repeat' split) <;> simp

@[simp] theorem State.placeTally_reads (s : State) (t : CtrlRec) :
    (s.placeTally t).op = s.op ∧ (s.placeTally t).cfg = s.cfg ∧ (s.placeTally t).active = s.active ∧
    (∀ j, (s.placeTally t).client j = s.client j) ∧ (∀ k, (s.placeTally t).seat k = s.seat k) ∧
    (∀ l, (s.placeTally t).radio l = s.radio l) ∧ (∀ z, (s.placeTally t).alert z = s.alert z) := by
  simp [State.op, State.cfg, State.active, State.client, State.seat, State.radio, State.alert]

@[simp] theorem State.placeControl_keeps (s : State) (r : CtrlRec) :
    (s.placeControl r).pending = s.pending ∧ (s.placeControl r).raised = s.raised ∧
    (s.placeControl r).now = s.now ∧ (s.placeControl r).runNow = s.runNow ∧
    (s.placeControl r).draws = s.draws ∧ (s.placeControl r).ctl = s.ctl ∧
    (s.placeControl r).tally = s.tally ∧ (s.placeControl r).clients = s.clients ∧
    (s.placeControl r).claimSeq = s.claimSeq ∧ (s.placeControl r).mem = s.mem ∧
    (s.placeControl r).sched = s.sched ∧ (s.placeControl r).seats = s.seats ∧
    (s.placeControl r).scanTimer = s.scanTimer ∧ (s.placeControl r).radios = s.radios ∧
    (s.placeControl r).filter = s.filter ∧ (s.placeControl r).notices = s.notices ∧
    (s.placeControl r).alerts = s.alerts ∧ (s.placeControl r).response = s.response ∧
    (s.placeControl r).restartArmed = s.restartArmed := by
  unfold State.placeControl
  (repeat' split) <;> simp

@[simp] theorem State.placeControl_reads (s : State) (r : CtrlRec) :
    (s.placeControl r).op = s.op ∧ (s.placeControl r).cfg = s.cfg ∧ (s.placeControl r).active = s.active ∧
    (∀ j, (s.placeControl r).client j = s.client j) ∧ (∀ k, (s.placeControl r).seat k = s.seat k) ∧
    (∀ l, (s.placeControl r).radio l = s.radio l) ∧ (∀ z, (s.placeControl r).alert z = s.alert z) := by
  simp [State.op, State.cfg, State.active, State.client, State.seat, State.radio, State.alert]

@[simp] theorem State.postControl_keeps (s : State) (r : CtrlRec) :
    (s.postControl r).pending = s.pending ∧ (s.postControl r).raised = s.raised ∧
    (s.postControl r).now = s.now ∧ (s.postControl r).runNow = s.runNow ∧
    (s.postControl r).draws = s.draws ∧ (s.postControl r).ctl = s.ctl ∧ (s.postControl r).tally = s.tally ∧
    (s.postControl r).claimSeq = s.claimSeq ∧ (s.postControl r).scanTimer = s.scanTimer ∧
    (s.postControl r).radios = s.radios ∧ (s.postControl r).filter = s.filter ∧
    (s.postControl r).response = s.response ∧ (s.postControl r).restartArmed = s.restartArmed := by
  unfold State.postControl
  (repeat' split) <;> simp

@[simp] theorem State.postControl_reads (s : State) (r : CtrlRec) :
    (s.postControl r).op = s.op ∧ (s.postControl r).cfg = s.cfg ∧ (s.postControl r).active = s.active ∧
    (∀ l, (s.postControl r).radio l = s.radio l) := by
  simp [State.op, State.cfg, State.active, State.radio]

@[simp] theorem State.discardExcess_keeps (s : State) (c : Content) :
    (s.discardExcess c).pending = s.pending ∧ (s.discardExcess c).raised = s.raised ∧
    (s.discardExcess c).now = s.now ∧ (s.discardExcess c).runNow = s.runNow ∧
    (s.discardExcess c).draws = s.draws ∧ (s.discardExcess c).ctl = s.ctl ∧
    (s.discardExcess c).line = s.line ∧ (s.discardExcess c).tally = s.tally ∧
    (s.discardExcess c).clients = s.clients ∧ (s.discardExcess c).claimSeq = s.claimSeq ∧
    (s.discardExcess c).sched = s.sched ∧ (s.discardExcess c).seats = s.seats ∧
    (s.discardExcess c).scanTimer = s.scanTimer ∧ (s.discardExcess c).radios = s.radios ∧
    (s.discardExcess c).filter = s.filter ∧ (s.discardExcess c).notices = s.notices ∧
    (s.discardExcess c).response = s.response ∧ (s.discardExcess c).restartArmed = s.restartArmed := by
  unfold State.discardExcess
  (repeat' split) <;> simp

@[simp] theorem State.discardExcess_reads (s : State) (c : Content) :
    (s.discardExcess c).op = s.op ∧ (s.discardExcess c).cfg = s.cfg ∧
    (s.discardExcess c).active = s.active ∧ (∀ j, (s.discardExcess c).client j = s.client j) ∧
    (∀ k, (s.discardExcess c).seat k = s.seat k) ∧ (∀ l, (s.discardExcess c).radio l = s.radio l) := by
  simp [State.op, State.cfg, State.active, State.client, State.seat, State.radio]

@[simp] theorem State.discardHold_keeps (s : State) (rec : UplinkRec) :
    (s.discardHold rec).pending = s.pending ∧ (s.discardHold rec).raised = s.raised ∧
    (s.discardHold rec).now = s.now ∧ (s.discardHold rec).runNow = s.runNow ∧
    (s.discardHold rec).draws = s.draws ∧ (s.discardHold rec).ctl = s.ctl ∧
    (s.discardHold rec).line = s.line ∧ (s.discardHold rec).tally = s.tally ∧
    (s.discardHold rec).clients = s.clients ∧ (s.discardHold rec).claimSeq = s.claimSeq ∧
    (s.discardHold rec).sched = s.sched ∧ (s.discardHold rec).seats = s.seats ∧
    (s.discardHold rec).scanTimer = s.scanTimer ∧ (s.discardHold rec).radios = s.radios ∧
    (s.discardHold rec).filter = s.filter ∧ (s.discardHold rec).notices = s.notices ∧
    (s.discardHold rec).alerts = s.alerts ∧ (s.discardHold rec).response = s.response ∧
    (s.discardHold rec).restartArmed = s.restartArmed := by
  simp [State.discardHold]

@[simp] theorem State.discardHold_reads (s : State) (rec : UplinkRec) :
    (s.discardHold rec).op = s.op ∧ (s.discardHold rec).cfg = s.cfg ∧
    (s.discardHold rec).active = s.active ∧ (∀ j, (s.discardHold rec).client j = s.client j) ∧
    (∀ k, (s.discardHold rec).seat k = s.seat k) ∧ (∀ l, (s.discardHold rec).radio l = s.radio l) ∧
    (∀ z, (s.discardHold rec).alert z = s.alert z) := by
  simp [State.op, State.cfg, State.active, State.client, State.seat, State.radio, State.alert]

@[simp] theorem State.emptySlot_keeps (s : State) :
    (s.emptySlot).pending = s.pending ∧ (s.emptySlot).raised = s.raised ∧ (s.emptySlot).now = s.now ∧
    (s.emptySlot).runNow = s.runNow ∧ (s.emptySlot).draws = s.draws ∧ (s.emptySlot).ctl = s.ctl ∧
    (s.emptySlot).tally = s.tally ∧ (s.emptySlot).clients = s.clients ∧
    (s.emptySlot).claimSeq = s.claimSeq ∧ (s.emptySlot).mem = s.mem ∧ (s.emptySlot).sched = s.sched ∧
    (s.emptySlot).seats = s.seats ∧ (s.emptySlot).scanTimer = s.scanTimer ∧
    (s.emptySlot).radios = s.radios ∧ (s.emptySlot).filter = s.filter ∧
    (s.emptySlot).counters = s.counters ∧ (s.emptySlot).notices = s.notices ∧
    (s.emptySlot).alerts = s.alerts ∧ (s.emptySlot).response = s.response ∧
    (s.emptySlot).restartArmed = s.restartArmed := by
  simp [State.emptySlot]

@[simp] theorem State.emptySlot_reads (s : State) :
    (s.emptySlot).op = s.op ∧ (s.emptySlot).cfg = s.cfg ∧ (s.emptySlot).active = s.active ∧
    (∀ j, (s.emptySlot).client j = s.client j) ∧ (∀ k, (s.emptySlot).seat k = s.seat k) ∧
    (∀ l, (s.emptySlot).radio l = s.radio l) ∧ (∀ z, (s.emptySlot).alert z = s.alert z) := by
  simp [State.op, State.cfg, State.active, State.client, State.seat, State.radio, State.alert]

@[simp] theorem State.drawBackoff_keeps (s : State) (x : Slot) (n : Nat) :
    (s.drawBackoff x n).now = s.now ∧ (s.drawBackoff x n).runNow = s.runNow ∧
    (s.drawBackoff x n).ctl = s.ctl ∧ (s.drawBackoff x n).tally = s.tally ∧
    (s.drawBackoff x n).clients = s.clients ∧ (s.drawBackoff x n).claimSeq = s.claimSeq ∧
    (s.drawBackoff x n).mem = s.mem ∧ (s.drawBackoff x n).sched = s.sched ∧
    (s.drawBackoff x n).seats = s.seats ∧ (s.drawBackoff x n).scanTimer = s.scanTimer ∧
    (s.drawBackoff x n).radios = s.radios ∧ (s.drawBackoff x n).filter = s.filter ∧
    (s.drawBackoff x n).counters = s.counters ∧ (s.drawBackoff x n).notices = s.notices ∧
    (s.drawBackoff x n).alerts = s.alerts ∧ (s.drawBackoff x n).response = s.response ∧
    (s.drawBackoff x n).restartArmed = s.restartArmed := by
  unfold State.drawBackoff
  dsimp only
  split <;> simp [State.startBackoff]

@[simp] theorem State.drawBackoff_reads (s : State) (x : Slot) (n : Nat) :
    (s.drawBackoff x n).op = s.op ∧ (s.drawBackoff x n).cfg = s.cfg ∧
    (s.drawBackoff x n).active = s.active ∧ (∀ j, (s.drawBackoff x n).client j = s.client j) ∧
    (∀ k, (s.drawBackoff x n).seat k = s.seat k) ∧ (∀ l, (s.drawBackoff x n).radio l = s.radio l) ∧
    (∀ z, (s.drawBackoff x n).alert z = s.alert z) := by
  simp [State.op, State.cfg, State.active, State.client, State.seat, State.radio, State.alert]

@[simp] theorem State.collide_keeps (s : State) (x : Slot) :
    (s.collide x).now = s.now ∧
    (s.collide x).runNow = s.runNow ∧ (s.collide x).ctl = s.ctl ∧ (s.collide x).tally = s.tally ∧
    (s.collide x).claimSeq = s.claimSeq ∧ (s.collide x).scanTimer = s.scanTimer ∧
    (s.collide x).radios = s.radios ∧ (s.collide x).filter = s.filter ∧
    (s.collide x).response = s.response ∧ (s.collide x).restartArmed = s.restartArmed := by
  unfold State.collide
  dsimp only
  (repeat' split) <;> simp

@[simp] theorem State.collide_reads (s : State) (x : Slot) :
    (s.collide x).op = s.op ∧ (s.collide x).cfg = s.cfg ∧ (s.collide x).active = s.active ∧
    (∀ l, (s.collide x).radio l = s.radio l) := by
  simp [State.op, State.cfg, State.active, State.radio]

@[simp] theorem State.complete_keeps (s : State) (x : Slot) :
    (s.complete x).pending = s.pending ∧ (s.complete x).raised = s.raised ∧ (s.complete x).now = s.now ∧
    (s.complete x).runNow = s.runNow ∧ (s.complete x).draws = s.draws ∧ (s.complete x).ctl = s.ctl ∧
    (s.complete x).tally = s.tally ∧ (s.complete x).claimSeq = s.claimSeq ∧
    (s.complete x).scanTimer = s.scanTimer ∧ (s.complete x).radios = s.radios ∧
    (s.complete x).filter = s.filter ∧ (s.complete x).response = s.response ∧
    (s.complete x).restartArmed = s.restartArmed := by
  unfold State.complete
  (repeat' split) <;> simp

@[simp] theorem State.complete_reads (s : State) (x : Slot) :
    (s.complete x).op = s.op ∧ (s.complete x).cfg = s.cfg ∧ (s.complete x).active = s.active ∧
    (∀ l, (s.complete x).radio l = s.radio l) := by
  simp [State.op, State.cfg, State.active, State.radio]

@[simp] theorem State.lineHoldEntry_keeps (s : State) :
    (s.lineHoldEntry).pending = s.pending ∧ (s.lineHoldEntry).raised = s.raised ∧
    (s.lineHoldEntry).now = s.now ∧ (s.lineHoldEntry).runNow = s.runNow ∧
    (s.lineHoldEntry).draws = s.draws ∧ (s.lineHoldEntry).ctl = s.ctl ∧ (s.lineHoldEntry).tally = s.tally ∧
    (s.lineHoldEntry).claimSeq = s.claimSeq ∧ (s.lineHoldEntry).scanTimer = s.scanTimer ∧
    (s.lineHoldEntry).radios = s.radios ∧ (s.lineHoldEntry).filter = s.filter ∧
    (s.lineHoldEntry).response = s.response ∧ (s.lineHoldEntry).restartArmed = s.restartArmed := by
  unfold State.lineHoldEntry
  (repeat' split) <;> simp

@[simp] theorem State.lineHoldEntry_reads (s : State) :
    (s.lineHoldEntry).op = s.op ∧ (s.lineHoldEntry).cfg = s.cfg ∧ (s.lineHoldEntry).active = s.active ∧
    (∀ l, (s.lineHoldEntry).radio l = s.radio l) := by
  simp [State.op, State.cfg, State.active, State.radio]

/-! ## Requests and claims -/

@[simp] theorem State.postClaim_keeps (s : State) (i : Fin 256) :
    (s.postClaim i).pending = s.pending ∧ (s.postClaim i).raised = s.raised ∧ (s.postClaim i).now = s.now ∧
    (s.postClaim i).runNow = s.runNow ∧ (s.postClaim i).draws = s.draws ∧ (s.postClaim i).ctl = s.ctl ∧
    (s.postClaim i).tally = s.tally ∧ (s.postClaim i).scanTimer = s.scanTimer ∧
    (s.postClaim i).radios = s.radios ∧ (s.postClaim i).filter = s.filter ∧
    (s.postClaim i).response = s.response ∧ (s.postClaim i).restartArmed = s.restartArmed := by
  simp [State.postClaim]

@[simp] theorem State.postClaim_reads (s : State) (i : Fin 256) :
    (s.postClaim i).op = s.op ∧ (s.postClaim i).cfg = s.cfg ∧ (s.postClaim i).active = s.active ∧
    (∀ l, (s.postClaim i).radio l = s.radio l) := by
  simp [State.op, State.cfg, State.active, State.radio]

@[simp] theorem State.admission_keeps (s : State) (a : Addr) (att : Attachment) (net : Option (Fin 4)) :
    (s.admission a att net).1.pending = s.pending ∧ (s.admission a att net).1.raised = s.raised ∧
    (s.admission a att net).1.now = s.now ∧ (s.admission a att net).1.runNow = s.runNow ∧
    (s.admission a att net).1.draws = s.draws ∧ (s.admission a att net).1.ctl = s.ctl ∧
    (s.admission a att net).1.tally = s.tally ∧ (s.admission a att net).1.scanTimer = s.scanTimer ∧
    (s.admission a att net).1.radios = s.radios ∧ (s.admission a att net).1.filter = s.filter ∧
    (s.admission a att net).1.response = s.response ∧
    (s.admission a att net).1.restartArmed = s.restartArmed := by
  unfold State.admission
  (repeat' split) <;> simp

@[simp] theorem State.admission_reads (s : State) (a : Addr) (att : Attachment) (net : Option (Fin 4)) :
    (s.admission a att net).1.op = s.op ∧ (s.admission a att net).1.cfg = s.cfg ∧
    (s.admission a att net).1.active = s.active ∧ (∀ l, (s.admission a att net).1.radio l = s.radio l) := by
  simp [State.op, State.cfg, State.active, State.radio]

@[simp] theorem State.attachTo_keeps (s : State) (i : Fin 256) (att : Attachment) (net : Option (Fin 4)) :
    (s.attachTo i att net).pending = s.pending ∧ (s.attachTo i att net).raised = s.raised ∧
    (s.attachTo i att net).now = s.now ∧ (s.attachTo i att net).runNow = s.runNow ∧
    (s.attachTo i att net).draws = s.draws ∧ (s.attachTo i att net).ctl = s.ctl ∧
    (s.attachTo i att net).line = s.line ∧ (s.attachTo i att net).tally = s.tally ∧
    (s.attachTo i att net).claimSeq = s.claimSeq ∧ (s.attachTo i att net).mem = s.mem ∧
    (s.attachTo i att net).sched = s.sched ∧ (s.attachTo i att net).seats = s.seats ∧
    (s.attachTo i att net).scanTimer = s.scanTimer ∧ (s.attachTo i att net).radios = s.radios ∧
    (s.attachTo i att net).filter = s.filter ∧ (s.attachTo i att net).counters = s.counters ∧
    (s.attachTo i att net).notices = s.notices ∧ (s.attachTo i att net).alerts = s.alerts ∧
    (s.attachTo i att net).response = s.response ∧
    (s.attachTo i att net).restartArmed = s.restartArmed := by
  simp [State.attachTo]

@[simp] theorem State.attachTo_reads (s : State) (i : Fin 256) (att : Attachment) (net : Option (Fin 4)) :
    (s.attachTo i att net).op = s.op ∧ (s.attachTo i att net).cfg = s.cfg ∧
    (s.attachTo i att net).active = s.active ∧ (∀ k, (s.attachTo i att net).seat k = s.seat k) ∧
    (∀ l, (s.attachTo i att net).radio l = s.radio l) ∧
    (∀ z, (s.attachTo i att net).alert z = s.alert z) := by
  simp [State.op, State.cfg, State.active, State.seat, State.radio, State.alert]

@[simp] theorem State.moveEntry_keeps (s : State) (i : Fin 256) (att : Attachment) (net : Option (Fin 4)) :
    (s.moveEntry i att net).pending = s.pending ∧ (s.moveEntry i att net).raised = s.raised ∧
    (s.moveEntry i att net).now = s.now ∧ (s.moveEntry i att net).runNow = s.runNow ∧
    (s.moveEntry i att net).draws = s.draws ∧ (s.moveEntry i att net).ctl = s.ctl ∧
    (s.moveEntry i att net).line = s.line ∧ (s.moveEntry i att net).tally = s.tally ∧
    (s.moveEntry i att net).claimSeq = s.claimSeq ∧ (s.moveEntry i att net).sched = s.sched ∧
    (s.moveEntry i att net).scanTimer = s.scanTimer ∧ (s.moveEntry i att net).radios = s.radios ∧
    (s.moveEntry i att net).filter = s.filter ∧ (s.moveEntry i att net).response = s.response ∧
    (s.moveEntry i att net).restartArmed = s.restartArmed := by
  simp [State.moveEntry]

@[simp] theorem State.moveEntry_reads (s : State) (i : Fin 256) (att : Attachment) (net : Option (Fin 4)) :
    (s.moveEntry i att net).op = s.op ∧ (s.moveEntry i att net).cfg = s.cfg ∧
    (s.moveEntry i att net).active = s.active ∧ (∀ l, (s.moveEntry i att net).radio l = s.radio l) := by
  simp [State.op, State.cfg, State.active, State.radio]

@[simp] theorem State.returnEntry_keeps (s : State) (i : Fin 256) (att : Attachment) (net : Option
    (Fin 4)) :
    (s.returnEntry i att net).pending = s.pending ∧ (s.returnEntry i att net).raised = s.raised ∧
    (s.returnEntry i att net).now = s.now ∧ (s.returnEntry i att net).runNow = s.runNow ∧
    (s.returnEntry i att net).draws = s.draws ∧ (s.returnEntry i att net).ctl = s.ctl ∧
    (s.returnEntry i att net).line = s.line ∧ (s.returnEntry i att net).tally = s.tally ∧
    (s.returnEntry i att net).claimSeq = s.claimSeq ∧ (s.returnEntry i att net).sched = s.sched ∧
    (s.returnEntry i att net).scanTimer = s.scanTimer ∧ (s.returnEntry i att net).radios = s.radios ∧
    (s.returnEntry i att net).filter = s.filter ∧ (s.returnEntry i att net).response = s.response ∧
    (s.returnEntry i att net).restartArmed = s.restartArmed := by
  unfold State.returnEntry
  dsimp only
  (repeat' split) <;> simp

@[simp] theorem State.returnEntry_reads (s : State) (i : Fin 256) (att : Attachment) (net : Option
    (Fin 4)) :
    (s.returnEntry i att net).op = s.op ∧ (s.returnEntry i att net).cfg = s.cfg ∧
    (s.returnEntry i att net).active = s.active ∧ (∀ l, (s.returnEntry i att net).radio l = s.radio l) := by
  simp [State.op, State.cfg, State.active, State.radio]

@[simp] theorem State.openFlap_keeps (s : State) (i : Fin 256) :
    (s.openFlap i).pending = s.pending ∧ (s.openFlap i).raised = s.raised ∧ (s.openFlap i).now = s.now ∧
    (s.openFlap i).runNow = s.runNow ∧ (s.openFlap i).draws = s.draws ∧ (s.openFlap i).ctl = s.ctl ∧
    (s.openFlap i).line = s.line ∧ (s.openFlap i).tally = s.tally ∧ (s.openFlap i).claimSeq = s.claimSeq ∧
    (s.openFlap i).mem = s.mem ∧ (s.openFlap i).sched = s.sched ∧ (s.openFlap i).seats = s.seats ∧
    (s.openFlap i).scanTimer = s.scanTimer ∧ (s.openFlap i).radios = s.radios ∧
    (s.openFlap i).filter = s.filter ∧ (s.openFlap i).counters = s.counters ∧
    (s.openFlap i).notices = s.notices ∧ (s.openFlap i).alerts = s.alerts ∧
    (s.openFlap i).response = s.response ∧ (s.openFlap i).restartArmed = s.restartArmed := by
  unfold State.openFlap
  (repeat' split) <;> simp

@[simp] theorem State.openFlap_reads (s : State) (i : Fin 256) :
    (s.openFlap i).op = s.op ∧ (s.openFlap i).cfg = s.cfg ∧ (s.openFlap i).active = s.active ∧
    (∀ k, (s.openFlap i).seat k = s.seat k) ∧ (∀ l, (s.openFlap i).radio l = s.radio l) ∧
    (∀ z, (s.openFlap i).alert z = s.alert z) := by
  simp [State.op, State.cfg, State.active, State.seat, State.radio, State.alert]

@[simp] theorem State.reclaim_keeps (s : State) (i : Fin 256) (att : Attachment) (net : Option (Fin 4)) :
    (s.reclaim i att net).pending = s.pending ∧ (s.reclaim i att net).raised = s.raised ∧
    (s.reclaim i att net).now = s.now ∧ (s.reclaim i att net).runNow = s.runNow ∧
    (s.reclaim i att net).draws = s.draws ∧ (s.reclaim i att net).ctl = s.ctl ∧
    (s.reclaim i att net).tally = s.tally ∧ (s.reclaim i att net).scanTimer = s.scanTimer ∧
    (s.reclaim i att net).radios = s.radios ∧ (s.reclaim i att net).filter = s.filter ∧
    (s.reclaim i att net).response = s.response ∧ (s.reclaim i att net).restartArmed = s.restartArmed := by
  simp [State.reclaim]

@[simp] theorem State.reclaim_reads (s : State) (i : Fin 256) (att : Attachment) (net : Option (Fin 4)) :
    (s.reclaim i att net).op = s.op ∧ (s.reclaim i att net).cfg = s.cfg ∧
    (s.reclaim i att net).active = s.active ∧ (∀ l, (s.reclaim i att net).radio l = s.radio l) := by
  simp [State.op, State.cfg, State.active, State.radio]

@[simp] theorem State.answerQueue_keeps (s : State) (i : Fin 256) :
    (s.answerQueue i).1.pending = s.pending ∧ (s.answerQueue i).1.raised = s.raised ∧
    (s.answerQueue i).1.now = s.now ∧ (s.answerQueue i).1.runNow = s.runNow ∧
    (s.answerQueue i).1.draws = s.draws ∧ (s.answerQueue i).1.ctl = s.ctl ∧
    (s.answerQueue i).1.line = s.line ∧ (s.answerQueue i).1.tally = s.tally ∧
    (s.answerQueue i).1.claimSeq = s.claimSeq ∧ (s.answerQueue i).1.mem = s.mem ∧
    (s.answerQueue i).1.sched = s.sched ∧ (s.answerQueue i).1.seats = s.seats ∧
    (s.answerQueue i).1.scanTimer = s.scanTimer ∧ (s.answerQueue i).1.radios = s.radios ∧
    (s.answerQueue i).1.filter = s.filter ∧ (s.answerQueue i).1.notices = s.notices ∧
    (s.answerQueue i).1.alerts = s.alerts ∧ (s.answerQueue i).1.response = s.response ∧
    (s.answerQueue i).1.restartArmed = s.restartArmed := by
  unfold State.answerQueue
  dsimp only
  (repeat' split) <;> simp

@[simp] theorem State.answerQueue_reads (s : State) (i : Fin 256) :
    (s.answerQueue i).1.op = s.op ∧ (s.answerQueue i).1.cfg = s.cfg ∧
    (s.answerQueue i).1.active = s.active ∧ (∀ k, (s.answerQueue i).1.seat k = s.seat k) ∧
    (∀ l, (s.answerQueue i).1.radio l = s.radio l) ∧ (∀ z, (s.answerQueue i).1.alert z = s.alert z) := by
  simp [State.op, State.cfg, State.active, State.seat, State.radio, State.alert]

@[simp] theorem State.refuseLimit_keeps (s : State) :
    (s.refuseLimit).1.pending = s.pending ∧ (s.refuseLimit).1.raised = s.raised ∧
    (s.refuseLimit).1.now = s.now ∧ (s.refuseLimit).1.runNow = s.runNow ∧
    (s.refuseLimit).1.draws = s.draws ∧ (s.refuseLimit).1.ctl = s.ctl ∧ (s.refuseLimit).1.line = s.line ∧
    (s.refuseLimit).1.tally = s.tally ∧ (s.refuseLimit).1.clients = s.clients ∧
    (s.refuseLimit).1.claimSeq = s.claimSeq ∧ (s.refuseLimit).1.mem = s.mem ∧
    (s.refuseLimit).1.sched = s.sched ∧ (s.refuseLimit).1.seats = s.seats ∧
    (s.refuseLimit).1.scanTimer = s.scanTimer ∧ (s.refuseLimit).1.radios = s.radios ∧
    (s.refuseLimit).1.filter = s.filter ∧ (s.refuseLimit).1.notices = s.notices ∧
    (s.refuseLimit).1.alerts = s.alerts ∧ (s.refuseLimit).1.response = s.response ∧
    (s.refuseLimit).1.restartArmed = s.restartArmed := by
  simp [State.refuseLimit]

@[simp] theorem State.refuseLimit_reads (s : State) :
    (s.refuseLimit).1.op = s.op ∧ (s.refuseLimit).1.cfg = s.cfg ∧ (s.refuseLimit).1.active = s.active ∧
    (∀ j, (s.refuseLimit).1.client j = s.client j) ∧ (∀ k, (s.refuseLimit).1.seat k = s.seat k) ∧
    (∀ l, (s.refuseLimit).1.radio l = s.radio l) ∧ (∀ z, (s.refuseLimit).1.alert z = s.alert z) := by
  simp [State.op, State.cfg, State.active, State.client, State.seat, State.radio, State.alert]

@[simp] theorem State.seatReclaim_keeps (s : State) (p : Fin 32) (i : Fin 256) :
    (s.seatReclaim p i).1.pending = s.pending ∧ (s.seatReclaim p i).1.raised = s.raised ∧
    (s.seatReclaim p i).1.now = s.now ∧ (s.seatReclaim p i).1.runNow = s.runNow ∧
    (s.seatReclaim p i).1.draws = s.draws ∧ (s.seatReclaim p i).1.ctl = s.ctl ∧
    (s.seatReclaim p i).1.tally = s.tally ∧ (s.seatReclaim p i).1.scanTimer = s.scanTimer ∧
    (s.seatReclaim p i).1.radios = s.radios ∧ (s.seatReclaim p i).1.filter = s.filter ∧
    (s.seatReclaim p i).1.response = s.response ∧ (s.seatReclaim p i).1.restartArmed = s.restartArmed := by
  unfold State.seatReclaim
  dsimp only
  (repeat' split) <;> simp

@[simp] theorem State.seatReclaim_reads (s : State) (p : Fin 32) (i : Fin 256) :
    (s.seatReclaim p i).1.op = s.op ∧ (s.seatReclaim p i).1.cfg = s.cfg ∧
    (s.seatReclaim p i).1.active = s.active ∧ (∀ l, (s.seatReclaim p i).1.radio l = s.radio l) := by
  simp [State.op, State.cfg, State.active, State.radio]

@[simp] theorem State.seatLookup_keeps (s : State) (p : Fin 32) (a : Addr) :
    (s.seatLookup p a).1.pending = s.pending ∧ (s.seatLookup p a).1.raised = s.raised ∧
    (s.seatLookup p a).1.now = s.now ∧ (s.seatLookup p a).1.runNow = s.runNow ∧
    (s.seatLookup p a).1.draws = s.draws ∧ (s.seatLookup p a).1.ctl = s.ctl ∧
    (s.seatLookup p a).1.tally = s.tally ∧ (s.seatLookup p a).1.scanTimer = s.scanTimer ∧
    (s.seatLookup p a).1.radios = s.radios ∧ (s.seatLookup p a).1.filter = s.filter ∧
    (s.seatLookup p a).1.response = s.response ∧ (s.seatLookup p a).1.restartArmed = s.restartArmed := by
  unfold State.seatLookup
  (repeat' split) <;> first | (simp; done) | (rename_i h; have e := congrArg Prod.fst h; simp only at e; subst e; simp)

@[simp] theorem State.seatLookup_reads (s : State) (p : Fin 32) (a : Addr) :
    (s.seatLookup p a).1.op = s.op ∧ (s.seatLookup p a).1.cfg = s.cfg ∧
    (s.seatLookup p a).1.active = s.active ∧ (∀ l, (s.seatLookup p a).1.radio l = s.radio l) := by
  simp [State.op, State.cfg, State.active, State.radio]

@[simp] theorem State.joinReclaim_keeps (s : State) (r : Fin 6) (net : Fin 4) (i : Fin 256) :
    (s.joinReclaim r net i).pending = s.pending ∧ (s.joinReclaim r net i).raised = s.raised ∧
    (s.joinReclaim r net i).now = s.now ∧ (s.joinReclaim r net i).runNow = s.runNow ∧
    (s.joinReclaim r net i).draws = s.draws ∧ (s.joinReclaim r net i).ctl = s.ctl ∧
    (s.joinReclaim r net i).tally = s.tally ∧ (s.joinReclaim r net i).scanTimer = s.scanTimer ∧
    (s.joinReclaim r net i).radios = s.radios ∧ (s.joinReclaim r net i).filter = s.filter ∧
    (s.joinReclaim r net i).response = s.response ∧
    (s.joinReclaim r net i).restartArmed = s.restartArmed := by
  unfold State.joinReclaim
  dsimp only
  (repeat' split) <;> simp

@[simp] theorem State.joinReclaim_reads (s : State) (r : Fin 6) (net : Fin 4) (i : Fin 256) :
    (s.joinReclaim r net i).op = s.op ∧ (s.joinReclaim r net i).cfg = s.cfg ∧
    (s.joinReclaim r net i).active = s.active ∧ (∀ l, (s.joinReclaim r net i).radio l = s.radio l) := by
  simp [State.op, State.cfg, State.active, State.radio]

@[simp] theorem State.join_keeps (s : State) (r : Fin 6) (a : Addr) (net : Fin 4) :
    (s.join r a net).pending = s.pending ∧ (s.join r a net).raised = s.raised ∧
    (s.join r a net).now = s.now ∧ (s.join r a net).runNow = s.runNow ∧ (s.join r a net).draws = s.draws ∧
    (s.join r a net).ctl = s.ctl ∧ (s.join r a net).tally = s.tally ∧
    (s.join r a net).scanTimer = s.scanTimer ∧ (s.join r a net).radios = s.radios ∧
    (s.join r a net).filter = s.filter ∧ (s.join r a net).response = s.response ∧
    (s.join r a net).restartArmed = s.restartArmed := by
  unfold State.join
  (repeat' split) <;> simp

@[simp] theorem State.join_reads (s : State) (r : Fin 6) (a : Addr) (net : Fin 4) :
    (s.join r a net).op = s.op ∧ (s.join r a net).cfg = s.cfg ∧ (s.join r a net).active = s.active ∧
    (∀ l, (s.join r a net).radio l = s.radio l) := by
  simp [State.op, State.cfg, State.active, State.radio]

@[simp] theorem State.leave_keeps (s : State) (r : Fin 6) (a : Addr) :
    (s.leave r a).pending = s.pending ∧ (s.leave r a).raised = s.raised ∧ (s.leave r a).now = s.now ∧
    (s.leave r a).runNow = s.runNow ∧ (s.leave r a).draws = s.draws ∧ (s.leave r a).ctl = s.ctl ∧
    (s.leave r a).line = s.line ∧ (s.leave r a).tally = s.tally ∧ (s.leave r a).claimSeq = s.claimSeq ∧
    (s.leave r a).sched = s.sched ∧ (s.leave r a).scanTimer = s.scanTimer ∧
    (s.leave r a).radios = s.radios ∧ (s.leave r a).filter = s.filter ∧
    (s.leave r a).response = s.response ∧ (s.leave r a).restartArmed = s.restartArmed := by
  unfold State.leave
  (repeat' split) <;> simp

@[simp] theorem State.leave_reads (s : State) (r : Fin 6) (a : Addr) :
    (s.leave r a).op = s.op ∧ (s.leave r a).cfg = s.cfg ∧ (s.leave r a).active = s.active ∧
    (∀ l, (s.leave r a).radio l = s.radio l) := by
  simp [State.op, State.cfg, State.active, State.radio]

@[simp] theorem State.takeUplink_keeps (s : State) (i : Fin 256) (data : List Byte) (limitCtr : Counter)
    (queuedCtr : Counter) :
    (s.takeUplink i data limitCtr queuedCtr).pending = s.pending ∧
    (s.takeUplink i data limitCtr queuedCtr).raised = s.raised ∧
    (s.takeUplink i data limitCtr queuedCtr).now = s.now ∧
    (s.takeUplink i data limitCtr queuedCtr).runNow = s.runNow ∧
    (s.takeUplink i data limitCtr queuedCtr).draws = s.draws ∧
    (s.takeUplink i data limitCtr queuedCtr).ctl = s.ctl ∧
    (s.takeUplink i data limitCtr queuedCtr).tally = s.tally ∧
    (s.takeUplink i data limitCtr queuedCtr).claimSeq = s.claimSeq ∧
    (s.takeUplink i data limitCtr queuedCtr).scanTimer = s.scanTimer ∧
    (s.takeUplink i data limitCtr queuedCtr).radios = s.radios ∧
    (s.takeUplink i data limitCtr queuedCtr).filter = s.filter ∧
    (s.takeUplink i data limitCtr queuedCtr).response = s.response ∧
    (s.takeUplink i data limitCtr queuedCtr).restartArmed = s.restartArmed := by
  unfold State.takeUplink
  dsimp only
  (repeat' split) <;> first | (simp; done) | (rename_i h; have e := congrArg Prod.fst h; simp only at e; subst e; simp)

@[simp] theorem State.takeUplink_reads (s : State) (i : Fin 256) (data : List Byte) (limitCtr : Counter)
    (queuedCtr : Counter) :
    (s.takeUplink i data limitCtr queuedCtr).op = s.op ∧
    (s.takeUplink i data limitCtr queuedCtr).cfg = s.cfg ∧
    (s.takeUplink i data limitCtr queuedCtr).active = s.active ∧
    (∀ l, (s.takeUplink i data limitCtr queuedCtr).radio l = s.radio l) := by
  simp [State.op, State.cfg, State.active, State.radio]

@[simp] theorem State.giveUp_keeps (s : State) (i : Fin 256) (num : BitVec 8) (claimant : Nat) :
    (s.giveUp i num claimant).pending = s.pending ∧ (s.giveUp i num claimant).raised = s.raised ∧
    (s.giveUp i num claimant).now = s.now ∧ (s.giveUp i num claimant).runNow = s.runNow ∧
    (s.giveUp i num claimant).draws = s.draws ∧ (s.giveUp i num claimant).ctl = s.ctl ∧
    (s.giveUp i num claimant).tally = s.tally ∧ (s.giveUp i num claimant).claimSeq = s.claimSeq ∧
    (s.giveUp i num claimant).scanTimer = s.scanTimer ∧ (s.giveUp i num claimant).radios = s.radios ∧
    (s.giveUp i num claimant).filter = s.filter ∧ (s.giveUp i num claimant).response = s.response ∧
    (s.giveUp i num claimant).restartArmed = s.restartArmed := by
  simp [State.giveUp]

@[simp] theorem State.giveUp_reads (s : State) (i : Fin 256) (num : BitVec 8) (claimant : Nat) :
    (s.giveUp i num claimant).op = s.op ∧ (s.giveUp i num claimant).cfg = s.cfg ∧
    (s.giveUp i num claimant).active = s.active ∧ (∀ l, (s.giveUp i num claimant).radio l = s.radio l) := by
  simp [State.op, State.cfg, State.active, State.radio]

@[simp] theorem State.counterClaim_keeps (s : State) (i : Fin 256) :
    (s.counterClaim i).pending = s.pending ∧ (s.counterClaim i).raised = s.raised ∧
    (s.counterClaim i).now = s.now ∧ (s.counterClaim i).runNow = s.runNow ∧
    (s.counterClaim i).draws = s.draws ∧ (s.counterClaim i).ctl = s.ctl ∧
    (s.counterClaim i).tally = s.tally ∧ (s.counterClaim i).scanTimer = s.scanTimer ∧
    (s.counterClaim i).radios = s.radios ∧ (s.counterClaim i).filter = s.filter ∧
    (s.counterClaim i).response = s.response ∧ (s.counterClaim i).restartArmed = s.restartArmed := by
  unfold State.counterClaim
  (repeat' split) <;> simp

@[simp] theorem State.counterClaim_reads (s : State) (i : Fin 256) :
    (s.counterClaim i).op = s.op ∧ (s.counterClaim i).cfg = s.cfg ∧ (s.counterClaim i).active = s.active ∧
    (∀ l, (s.counterClaim i).radio l = s.radio l) := by
  simp [State.op, State.cfg, State.active, State.radio]

@[simp] theorem State.claimArrival_keeps (s0 : State) (a : Addr) (num : BitVec 8) (claimant : Nat) :
    (s0.claimArrival a num claimant).pending = s0.pending ∧
    (s0.claimArrival a num claimant).raised = s0.raised ∧ (s0.claimArrival a num claimant).now = s0.now ∧
    (s0.claimArrival a num claimant).runNow = s0.runNow ∧
    (s0.claimArrival a num claimant).draws = s0.draws ∧ (s0.claimArrival a num claimant).ctl = s0.ctl ∧
    (s0.claimArrival a num claimant).tally = s0.tally ∧
    (s0.claimArrival a num claimant).scanTimer = s0.scanTimer ∧
    (s0.claimArrival a num claimant).radios = s0.radios ∧
    (s0.claimArrival a num claimant).filter = s0.filter ∧
    (s0.claimArrival a num claimant).response = s0.response ∧
    (s0.claimArrival a num claimant).restartArmed = s0.restartArmed := by
  unfold State.claimArrival
  dsimp only
  (repeat' split) <;> simp

@[simp] theorem State.claimArrival_reads (s0 : State) (a : Addr) (num : BitVec 8) (claimant : Nat) :
    (s0.claimArrival a num claimant).op = s0.op ∧ (s0.claimArrival a num claimant).cfg = s0.cfg ∧
    (s0.claimArrival a num claimant).active = s0.active ∧
    (∀ l, (s0.claimArrival a num claimant).radio l = s0.radio l) := by
  simp [State.op, State.cfg, State.active, State.radio]

@[simp] theorem State.makeLocal_keeps (s : State) (i : Fin 256) :
    (s.makeLocal i).pending = s.pending ∧ (s.makeLocal i).raised = s.raised ∧ (s.makeLocal i).now = s.now ∧
    (s.makeLocal i).runNow = s.runNow ∧ (s.makeLocal i).draws = s.draws ∧ (s.makeLocal i).ctl = s.ctl ∧
    (s.makeLocal i).line = s.line ∧ (s.makeLocal i).tally = s.tally ∧
    (s.makeLocal i).claimSeq = s.claimSeq ∧ (s.makeLocal i).mem = s.mem ∧ (s.makeLocal i).sched = s.sched ∧
    (s.makeLocal i).seats = s.seats ∧ (s.makeLocal i).scanTimer = s.scanTimer ∧
    (s.makeLocal i).radios = s.radios ∧ (s.makeLocal i).filter = s.filter ∧
    (s.makeLocal i).counters = s.counters ∧ (s.makeLocal i).notices = s.notices ∧
    (s.makeLocal i).alerts = s.alerts ∧ (s.makeLocal i).response = s.response ∧
    (s.makeLocal i).restartArmed = s.restartArmed := by
  simp [State.makeLocal]

@[simp] theorem State.makeLocal_reads (s : State) (i : Fin 256) :
    (s.makeLocal i).op = s.op ∧ (s.makeLocal i).cfg = s.cfg ∧ (s.makeLocal i).active = s.active ∧
    (∀ k, (s.makeLocal i).seat k = s.seat k) ∧ (∀ l, (s.makeLocal i).radio l = s.radio l) ∧
    (∀ z, (s.makeLocal i).alert z = s.alert z) := by
  simp [State.op, State.cfg, State.active, State.seat, State.radio, State.alert]

@[simp] theorem State.releaseArrival_keeps (s : State) (a : Addr) (num : BitVec 8) (discard : Nat) :
    (s.releaseArrival a num discard).pending = s.pending ∧
    (s.releaseArrival a num discard).raised = s.raised ∧ (s.releaseArrival a num discard).now = s.now ∧
    (s.releaseArrival a num discard).runNow = s.runNow ∧ (s.releaseArrival a num discard).draws = s.draws ∧
    (s.releaseArrival a num discard).ctl = s.ctl ∧ (s.releaseArrival a num discard).line = s.line ∧
    (s.releaseArrival a num discard).tally = s.tally ∧
    (s.releaseArrival a num discard).claimSeq = s.claimSeq ∧ (s.releaseArrival a num discard).mem = s.mem ∧
    (s.releaseArrival a num discard).sched = s.sched ∧ (s.releaseArrival a num discard).seats = s.seats ∧
    (s.releaseArrival a num discard).scanTimer = s.scanTimer ∧
    (s.releaseArrival a num discard).radios = s.radios ∧
    (s.releaseArrival a num discard).filter = s.filter ∧
    (s.releaseArrival a num discard).notices = s.notices ∧
    (s.releaseArrival a num discard).alerts = s.alerts ∧
    (s.releaseArrival a num discard).response = s.response ∧
    (s.releaseArrival a num discard).restartArmed = s.restartArmed := by
  unfold State.releaseArrival
  (repeat' split) <;> simp

@[simp] theorem State.releaseArrival_reads (s : State) (a : Addr) (num : BitVec 8) (discard : Nat) :
    (s.releaseArrival a num discard).op = s.op ∧ (s.releaseArrival a num discard).cfg = s.cfg ∧
    (s.releaseArrival a num discard).active = s.active ∧
    (∀ k, (s.releaseArrival a num discard).seat k = s.seat k) ∧
    (∀ l, (s.releaseArrival a num discard).radio l = s.radio l) ∧
    (∀ z, (s.releaseArrival a num discard).alert z = s.alert z) := by
  simp [State.op, State.cfg, State.active, State.seat, State.radio, State.alert]

@[simp] theorem State.endTombstone_keeps (s : State) (i : Fin 256) :
    (s.endTombstone i).pending = s.pending ∧ (s.endTombstone i).raised = s.raised ∧
    (s.endTombstone i).now = s.now ∧ (s.endTombstone i).runNow = s.runNow ∧
    (s.endTombstone i).draws = s.draws ∧ (s.endTombstone i).ctl = s.ctl ∧
    (s.endTombstone i).tally = s.tally ∧ (s.endTombstone i).scanTimer = s.scanTimer ∧
    (s.endTombstone i).radios = s.radios ∧ (s.endTombstone i).filter = s.filter ∧
    (s.endTombstone i).response = s.response ∧ (s.endTombstone i).restartArmed = s.restartArmed := by
  unfold State.endTombstone
  (repeat' split) <;> simp

@[simp] theorem State.endTombstone_reads (s : State) (i : Fin 256) :
    (s.endTombstone i).op = s.op ∧ (s.endTombstone i).cfg = s.cfg ∧ (s.endTombstone i).active = s.active ∧
    (∀ l, (s.endTombstone i).radio l = s.radio l) := by
  simp [State.op, State.cfg, State.active, State.radio]

/-! ## Seat ports -/

@[simp] theorem State.flushSeat_keeps (s : State) (p : Fin 32) :
    (s.flushSeat p).pending = s.pending ∧ (s.flushSeat p).raised = s.raised ∧ (s.flushSeat p).now = s.now ∧
    (s.flushSeat p).runNow = s.runNow ∧ (s.flushSeat p).draws = s.draws ∧ (s.flushSeat p).ctl = s.ctl ∧
    (s.flushSeat p).line = s.line ∧ (s.flushSeat p).tally = s.tally ∧ (s.flushSeat p).clients = s.clients ∧
    (s.flushSeat p).claimSeq = s.claimSeq ∧ (s.flushSeat p).sched = s.sched ∧
    (s.flushSeat p).scanTimer = s.scanTimer ∧ (s.flushSeat p).radios = s.radios ∧
    (s.flushSeat p).filter = s.filter ∧ (s.flushSeat p).notices = s.notices ∧
    (s.flushSeat p).alerts = s.alerts ∧ (s.flushSeat p).response = s.response ∧
    (s.flushSeat p).restartArmed = s.restartArmed := by
  simp [State.flushSeat]

@[simp] theorem State.flushSeat_reads (s : State) (p : Fin 32) :
    (s.flushSeat p).op = s.op ∧ (s.flushSeat p).cfg = s.cfg ∧ (s.flushSeat p).active = s.active ∧
    (∀ j, (s.flushSeat p).client j = s.client j) ∧ (∀ l, (s.flushSeat p).radio l = s.radio l) ∧
    (∀ z, (s.flushSeat p).alert z = s.alert z) := by
  simp [State.op, State.cfg, State.active, State.client, State.radio, State.alert]

@[simp] theorem State.seatDown_keeps (s : State) (p : Fin 32) :
    (s.seatDown p).pending = s.pending ∧ (s.seatDown p).raised = s.raised ∧ (s.seatDown p).now = s.now ∧
    (s.seatDown p).runNow = s.runNow ∧ (s.seatDown p).draws = s.draws ∧ (s.seatDown p).ctl = s.ctl ∧
    (s.seatDown p).line = s.line ∧ (s.seatDown p).tally = s.tally ∧ (s.seatDown p).claimSeq = s.claimSeq ∧
    (s.seatDown p).sched = s.sched ∧ (s.seatDown p).scanTimer = s.scanTimer ∧
    (s.seatDown p).radios = s.radios ∧ (s.seatDown p).filter = s.filter ∧
    (s.seatDown p).response = s.response ∧ (s.seatDown p).restartArmed = s.restartArmed := by
  simp [State.seatDown]

@[simp] theorem State.seatDown_reads (s : State) (p : Fin 32) :
    (s.seatDown p).op = s.op ∧ (s.seatDown p).cfg = s.cfg ∧ (s.seatDown p).active = s.active ∧
    (∀ l, (s.seatDown p).radio l = s.radio l) := by
  simp [State.op, State.cfg, State.active, State.radio]

@[simp] theorem State.seatUnsettled_keeps (s : State) (p : Fin 32) :
    (s.seatUnsettled p).pending = s.pending ∧ (s.seatUnsettled p).raised = s.raised ∧
    (s.seatUnsettled p).now = s.now ∧ (s.seatUnsettled p).runNow = s.runNow ∧
    (s.seatUnsettled p).draws = s.draws ∧ (s.seatUnsettled p).ctl = s.ctl ∧
    (s.seatUnsettled p).line = s.line ∧ (s.seatUnsettled p).tally = s.tally ∧
    (s.seatUnsettled p).claimSeq = s.claimSeq ∧ (s.seatUnsettled p).sched = s.sched ∧
    (s.seatUnsettled p).scanTimer = s.scanTimer ∧ (s.seatUnsettled p).radios = s.radios ∧
    (s.seatUnsettled p).filter = s.filter ∧ (s.seatUnsettled p).response = s.response ∧
    (s.seatUnsettled p).restartArmed = s.restartArmed := by
  simp [State.seatUnsettled]

@[simp] theorem State.seatUnsettled_reads (s : State) (p : Fin 32) :
    (s.seatUnsettled p).op = s.op ∧ (s.seatUnsettled p).cfg = s.cfg ∧
    (s.seatUnsettled p).active = s.active ∧ (∀ l, (s.seatUnsettled p).radio l = s.radio l) := by
  simp [State.op, State.cfg, State.active, State.radio]

@[simp] theorem State.seatUp_keeps (s : State) (p : Fin 32) :
    (s.seatUp p).pending = s.pending ∧ (s.seatUp p).raised = s.raised ∧ (s.seatUp p).now = s.now ∧
    (s.seatUp p).runNow = s.runNow ∧ (s.seatUp p).draws = s.draws ∧ (s.seatUp p).ctl = s.ctl ∧
    (s.seatUp p).line = s.line ∧ (s.seatUp p).tally = s.tally ∧ (s.seatUp p).clients = s.clients ∧
    (s.seatUp p).claimSeq = s.claimSeq ∧ (s.seatUp p).mem = s.mem ∧ (s.seatUp p).sched = s.sched ∧
    (s.seatUp p).scanTimer = s.scanTimer ∧ (s.seatUp p).radios = s.radios ∧ (s.seatUp p).filter = s.filter ∧
    (s.seatUp p).notices = s.notices ∧ (s.seatUp p).alerts = s.alerts ∧ (s.seatUp p).response = s.response ∧
    (s.seatUp p).restartArmed = s.restartArmed := by
  simp [State.seatUp]

@[simp] theorem State.seatUp_reads (s : State) (p : Fin 32) :
    (s.seatUp p).op = s.op ∧ (s.seatUp p).cfg = s.cfg ∧ (s.seatUp p).active = s.active ∧
    (∀ j, (s.seatUp p).client j = s.client j) ∧ (∀ l, (s.seatUp p).radio l = s.radio l) ∧
    (∀ z, (s.seatUp p).alert z = s.alert z) := by
  simp [State.op, State.cfg, State.active, State.client, State.radio, State.alert]

@[simp] theorem State.seatQuiet_keeps (s : State) (p : Fin 32) :
    (s.seatQuiet p).pending = s.pending ∧ (s.seatQuiet p).raised = s.raised ∧ (s.seatQuiet p).now = s.now ∧
    (s.seatQuiet p).runNow = s.runNow ∧ (s.seatQuiet p).draws = s.draws ∧ (s.seatQuiet p).ctl = s.ctl ∧
    (s.seatQuiet p).line = s.line ∧ (s.seatQuiet p).tally = s.tally ∧
    (s.seatQuiet p).claimSeq = s.claimSeq ∧ (s.seatQuiet p).sched = s.sched ∧
    (s.seatQuiet p).scanTimer = s.scanTimer ∧ (s.seatQuiet p).radios = s.radios ∧
    (s.seatQuiet p).filter = s.filter ∧ (s.seatQuiet p).response = s.response ∧
    (s.seatQuiet p).restartArmed = s.restartArmed := by
  simp [State.seatQuiet]

@[simp] theorem State.seatQuiet_reads (s : State) (p : Fin 32) :
    (s.seatQuiet p).op = s.op ∧ (s.seatQuiet p).cfg = s.cfg ∧ (s.seatQuiet p).active = s.active ∧
    (∀ l, (s.seatQuiet p).radio l = s.radio l) := by
  simp [State.op, State.cfg, State.active, State.radio]

@[simp] theorem State.readPort_keeps (s : State) (p : Fin 32) :
    (s.readPort p).pending = s.pending ∧ (s.readPort p).raised = s.raised ∧ (s.readPort p).now = s.now ∧
    (s.readPort p).runNow = s.runNow ∧ (s.readPort p).draws = s.draws ∧ (s.readPort p).ctl = s.ctl ∧
    (s.readPort p).line = s.line ∧ (s.readPort p).tally = s.tally ∧ (s.readPort p).claimSeq = s.claimSeq ∧
    (s.readPort p).sched = s.sched ∧ (s.readPort p).scanTimer = s.scanTimer ∧
    (s.readPort p).radios = s.radios ∧ (s.readPort p).filter = s.filter ∧
    (s.readPort p).response = s.response ∧ (s.readPort p).restartArmed = s.restartArmed := by
  unfold State.readPort
  dsimp only
  (repeat' split) <;> simp

@[simp] theorem State.readPort_reads (s : State) (p : Fin 32) :
    (s.readPort p).op = s.op ∧ (s.readPort p).cfg = s.cfg ∧ (s.readPort p).active = s.active ∧
    (∀ l, (s.readPort p).radio l = s.radio l) := by
  simp [State.op, State.cfg, State.active, State.radio]

@[simp] theorem State.seatBad_keeps (s : State) (p : Fin 32) :
    (s.seatBad p).pending = s.pending ∧ (s.seatBad p).raised = s.raised ∧ (s.seatBad p).now = s.now ∧
    (s.seatBad p).runNow = s.runNow ∧ (s.seatBad p).draws = s.draws ∧ (s.seatBad p).ctl = s.ctl ∧
    (s.seatBad p).line = s.line ∧ (s.seatBad p).tally = s.tally ∧ (s.seatBad p).claimSeq = s.claimSeq ∧
    (s.seatBad p).sched = s.sched ∧ (s.seatBad p).scanTimer = s.scanTimer ∧
    (s.seatBad p).radios = s.radios ∧ (s.seatBad p).filter = s.filter ∧
    (s.seatBad p).response = s.response ∧ (s.seatBad p).restartArmed = s.restartArmed := by
  unfold State.seatBad
  dsimp only
  (repeat' split) <;> simp

@[simp] theorem State.seatBad_reads (s : State) (p : Fin 32) :
    (s.seatBad p).op = s.op ∧ (s.seatBad p).cfg = s.cfg ∧ (s.seatBad p).active = s.active ∧
    (∀ l, (s.seatBad p).radio l = s.radio l) := by
  simp [State.op, State.cfg, State.active, State.radio]

@[simp] theorem State.seatUnadmitted_keeps (s : State) (p : Fin 32) :
    (s.seatUnadmitted p).pending = s.pending ∧ (s.seatUnadmitted p).raised = s.raised ∧
    (s.seatUnadmitted p).now = s.now ∧ (s.seatUnadmitted p).runNow = s.runNow ∧
    (s.seatUnadmitted p).draws = s.draws ∧ (s.seatUnadmitted p).ctl = s.ctl ∧
    (s.seatUnadmitted p).line = s.line ∧ (s.seatUnadmitted p).tally = s.tally ∧
    (s.seatUnadmitted p).claimSeq = s.claimSeq ∧ (s.seatUnadmitted p).sched = s.sched ∧
    (s.seatUnadmitted p).scanTimer = s.scanTimer ∧ (s.seatUnadmitted p).radios = s.radios ∧
    (s.seatUnadmitted p).filter = s.filter ∧ (s.seatUnadmitted p).response = s.response ∧
    (s.seatUnadmitted p).restartArmed = s.restartArmed := by
  unfold State.seatUnadmitted
  dsimp only
  (repeat' split) <;> simp

@[simp] theorem State.seatUnadmitted_reads (s : State) (p : Fin 32) :
    (s.seatUnadmitted p).op = s.op ∧ (s.seatUnadmitted p).cfg = s.cfg ∧
    (s.seatUnadmitted p).active = s.active ∧ (∀ l, (s.seatUnadmitted p).radio l = s.radio l) := by
  simp [State.op, State.cfg, State.active, State.radio]

@[simp] theorem State.seatPaused_keeps (s : State) (p : Fin 32) (q : Nat) :
    (s.seatPaused p q).pending = s.pending ∧ (s.seatPaused p q).raised = s.raised ∧
    (s.seatPaused p q).now = s.now ∧ (s.seatPaused p q).runNow = s.runNow ∧
    (s.seatPaused p q).draws = s.draws ∧ (s.seatPaused p q).ctl = s.ctl ∧ (s.seatPaused p q).line = s.line ∧
    (s.seatPaused p q).tally = s.tally ∧ (s.seatPaused p q).clients = s.clients ∧
    (s.seatPaused p q).claimSeq = s.claimSeq ∧ (s.seatPaused p q).sched = s.sched ∧
    (s.seatPaused p q).scanTimer = s.scanTimer ∧ (s.seatPaused p q).radios = s.radios ∧
    (s.seatPaused p q).filter = s.filter ∧ (s.seatPaused p q).notices = s.notices ∧
    (s.seatPaused p q).alerts = s.alerts ∧ (s.seatPaused p q).response = s.response ∧
    (s.seatPaused p q).restartArmed = s.restartArmed := by
  unfold State.seatPaused
  (repeat' split) <;> simp

@[simp] theorem State.seatPaused_reads (s : State) (p : Fin 32) (q : Nat) :
    (s.seatPaused p q).op = s.op ∧ (s.seatPaused p q).cfg = s.cfg ∧ (s.seatPaused p q).active = s.active ∧
    (∀ j, (s.seatPaused p q).client j = s.client j) ∧ (∀ l, (s.seatPaused p q).radio l = s.radio l) ∧
    (∀ z, (s.seatPaused p q).alert z = s.alert z) := by
  simp [State.op, State.cfg, State.active, State.client, State.radio, State.alert]

@[simp] theorem State.seatAnswer_keeps (s : State) (p : Fin 32) (bytes : List Byte) (ans : SeatAnswer) :
    (s.seatAnswer p bytes ans).pending = s.pending ∧ (s.seatAnswer p bytes ans).raised = s.raised ∧
    (s.seatAnswer p bytes ans).now = s.now ∧ (s.seatAnswer p bytes ans).runNow = s.runNow ∧
    (s.seatAnswer p bytes ans).draws = s.draws ∧ (s.seatAnswer p bytes ans).ctl = s.ctl ∧
    (s.seatAnswer p bytes ans).tally = s.tally ∧ (s.seatAnswer p bytes ans).claimSeq = s.claimSeq ∧
    (s.seatAnswer p bytes ans).scanTimer = s.scanTimer ∧ (s.seatAnswer p bytes ans).radios = s.radios ∧
    (s.seatAnswer p bytes ans).filter = s.filter ∧ (s.seatAnswer p bytes ans).response = s.response ∧
    (s.seatAnswer p bytes ans).restartArmed = s.restartArmed := by
  unfold State.seatAnswer
  (repeat' split) <;> simp

@[simp] theorem State.seatAnswer_reads (s : State) (p : Fin 32) (bytes : List Byte) (ans : SeatAnswer) :
    (s.seatAnswer p bytes ans).op = s.op ∧ (s.seatAnswer p bytes ans).cfg = s.cfg ∧
    (s.seatAnswer p bytes ans).active = s.active ∧
    (∀ l, (s.seatAnswer p bytes ans).radio l = s.radio l) := by
  simp [State.op, State.cfg, State.active, State.radio]

@[simp] theorem State.seatIngress_keeps (s : State) (p : Fin 32) (bytes : List Byte) :
    (s.seatIngress p bytes).pending = s.pending ∧ (s.seatIngress p bytes).raised = s.raised ∧
    (s.seatIngress p bytes).now = s.now ∧ (s.seatIngress p bytes).runNow = s.runNow ∧
    (s.seatIngress p bytes).draws = s.draws ∧ (s.seatIngress p bytes).ctl = s.ctl ∧
    (s.seatIngress p bytes).tally = s.tally ∧ (s.seatIngress p bytes).scanTimer = s.scanTimer ∧
    (s.seatIngress p bytes).radios = s.radios ∧ (s.seatIngress p bytes).filter = s.filter ∧
    (s.seatIngress p bytes).response = s.response ∧
    (s.seatIngress p bytes).restartArmed = s.restartArmed := by
  unfold State.seatIngress
  dsimp only
  (repeat' split) <;> simp

@[simp] theorem State.seatIngress_reads (s : State) (p : Fin 32) (bytes : List Byte) :
    (s.seatIngress p bytes).op = s.op ∧ (s.seatIngress p bytes).cfg = s.cfg ∧
    (s.seatIngress p bytes).active = s.active ∧ (∀ l, (s.seatIngress p bytes).radio l = s.radio l) := by
  simp [State.op, State.cfg, State.active, State.radio]

@[simp] theorem State.seatFrame_keeps (s : State) (p : Fin 32) (bytes : List Byte) :
    (s.seatFrame p bytes).pending = s.pending ∧ (s.seatFrame p bytes).raised = s.raised ∧
    (s.seatFrame p bytes).now = s.now ∧ (s.seatFrame p bytes).runNow = s.runNow ∧
    (s.seatFrame p bytes).draws = s.draws ∧ (s.seatFrame p bytes).ctl = s.ctl ∧
    (s.seatFrame p bytes).tally = s.tally ∧ (s.seatFrame p bytes).scanTimer = s.scanTimer ∧
    (s.seatFrame p bytes).radios = s.radios ∧ (s.seatFrame p bytes).filter = s.filter ∧
    (s.seatFrame p bytes).response = s.response ∧ (s.seatFrame p bytes).restartArmed = s.restartArmed := by
  unfold State.seatFrame
  (repeat' split) <;> simp

@[simp] theorem State.seatFrame_reads (s : State) (p : Fin 32) (bytes : List Byte) :
    (s.seatFrame p bytes).op = s.op ∧ (s.seatFrame p bytes).cfg = s.cfg ∧
    (s.seatFrame p bytes).active = s.active ∧ (∀ l, (s.seatFrame p bytes).radio l = s.radio l) := by
  simp [State.op, State.cfg, State.active, State.radio]

@[simp] theorem State.seatDelivered_keeps (s : State) (p : Fin 32) :
    (s.seatDelivered p).pending = s.pending ∧ (s.seatDelivered p).raised = s.raised ∧
    (s.seatDelivered p).now = s.now ∧ (s.seatDelivered p).runNow = s.runNow ∧
    (s.seatDelivered p).draws = s.draws ∧ (s.seatDelivered p).ctl = s.ctl ∧
    (s.seatDelivered p).line = s.line ∧ (s.seatDelivered p).tally = s.tally ∧
    (s.seatDelivered p).clients = s.clients ∧ (s.seatDelivered p).claimSeq = s.claimSeq ∧
    (s.seatDelivered p).sched = s.sched ∧ (s.seatDelivered p).scanTimer = s.scanTimer ∧
    (s.seatDelivered p).radios = s.radios ∧ (s.seatDelivered p).filter = s.filter ∧
    (s.seatDelivered p).notices = s.notices ∧ (s.seatDelivered p).alerts = s.alerts ∧
    (s.seatDelivered p).response = s.response ∧ (s.seatDelivered p).restartArmed = s.restartArmed := by
  unfold State.seatDelivered
  (repeat' split) <;> simp

@[simp] theorem State.seatDelivered_reads (s : State) (p : Fin 32) :
    (s.seatDelivered p).op = s.op ∧ (s.seatDelivered p).cfg = s.cfg ∧
    (s.seatDelivered p).active = s.active ∧ (∀ j, (s.seatDelivered p).client j = s.client j) ∧
    (∀ l, (s.seatDelivered p).radio l = s.radio l) ∧ (∀ z, (s.seatDelivered p).alert z = s.alert z) := by
  simp [State.op, State.cfg, State.active, State.client, State.radio, State.alert]

@[simp] theorem State.seatLinkFall_keeps (s : State) (p : Fin 32) :
    (s.seatLinkFall p).pending = s.pending ∧ (s.seatLinkFall p).raised = s.raised ∧
    (s.seatLinkFall p).now = s.now ∧ (s.seatLinkFall p).runNow = s.runNow ∧
    (s.seatLinkFall p).draws = s.draws ∧ (s.seatLinkFall p).ctl = s.ctl ∧ (s.seatLinkFall p).line = s.line ∧
    (s.seatLinkFall p).tally = s.tally ∧ (s.seatLinkFall p).clients = s.clients ∧
    (s.seatLinkFall p).claimSeq = s.claimSeq ∧ (s.seatLinkFall p).sched = s.sched ∧
    (s.seatLinkFall p).scanTimer = s.scanTimer ∧ (s.seatLinkFall p).radios = s.radios ∧
    (s.seatLinkFall p).filter = s.filter ∧ (s.seatLinkFall p).notices = s.notices ∧
    (s.seatLinkFall p).alerts = s.alerts ∧ (s.seatLinkFall p).response = s.response ∧
    (s.seatLinkFall p).restartArmed = s.restartArmed := by
  unfold State.seatLinkFall
  dsimp only
  (repeat' split) <;> simp

@[simp] theorem State.seatLinkFall_reads (s : State) (p : Fin 32) :
    (s.seatLinkFall p).op = s.op ∧ (s.seatLinkFall p).cfg = s.cfg ∧ (s.seatLinkFall p).active = s.active ∧
    (∀ j, (s.seatLinkFall p).client j = s.client j) ∧ (∀ l, (s.seatLinkFall p).radio l = s.radio l) ∧
    (∀ z, (s.seatLinkFall p).alert z = s.alert z) := by
  simp [State.op, State.cfg, State.active, State.client, State.radio, State.alert]

@[simp] theorem State.seatHold_keeps (s : State) (p : Fin 32) :
    (s.seatHold p).pending = s.pending ∧ (s.seatHold p).raised = s.raised ∧ (s.seatHold p).now = s.now ∧
    (s.seatHold p).runNow = s.runNow ∧ (s.seatHold p).draws = s.draws ∧ (s.seatHold p).ctl = s.ctl ∧
    (s.seatHold p).line = s.line ∧ (s.seatHold p).tally = s.tally ∧ (s.seatHold p).clients = s.clients ∧
    (s.seatHold p).claimSeq = s.claimSeq ∧ (s.seatHold p).sched = s.sched ∧
    (s.seatHold p).scanTimer = s.scanTimer ∧ (s.seatHold p).radios = s.radios ∧
    (s.seatHold p).filter = s.filter ∧ (s.seatHold p).notices = s.notices ∧
    (s.seatHold p).alerts = s.alerts ∧ (s.seatHold p).response = s.response ∧
    (s.seatHold p).restartArmed = s.restartArmed := by
  unfold State.seatHold
  (repeat' split) <;> simp

@[simp] theorem State.seatHold_reads (s : State) (p : Fin 32) :
    (s.seatHold p).op = s.op ∧ (s.seatHold p).cfg = s.cfg ∧ (s.seatHold p).active = s.active ∧
    (∀ j, (s.seatHold p).client j = s.client j) ∧ (∀ l, (s.seatHold p).radio l = s.radio l) ∧
    (∀ z, (s.seatHold p).alert z = s.alert z) := by
  simp [State.op, State.cfg, State.active, State.client, State.radio, State.alert]

@[simp] theorem State.seatHoldExit_keeps (s : State) (p : Fin 32) :
    (s.seatHoldExit p).pending = s.pending ∧ (s.seatHoldExit p).raised = s.raised ∧
    (s.seatHoldExit p).now = s.now ∧ (s.seatHoldExit p).runNow = s.runNow ∧
    (s.seatHoldExit p).draws = s.draws ∧ (s.seatHoldExit p).ctl = s.ctl ∧ (s.seatHoldExit p).line = s.line ∧
    (s.seatHoldExit p).tally = s.tally ∧ (s.seatHoldExit p).clients = s.clients ∧
    (s.seatHoldExit p).claimSeq = s.claimSeq ∧ (s.seatHoldExit p).mem = s.mem ∧
    (s.seatHoldExit p).sched = s.sched ∧ (s.seatHoldExit p).scanTimer = s.scanTimer ∧
    (s.seatHoldExit p).radios = s.radios ∧ (s.seatHoldExit p).filter = s.filter ∧
    (s.seatHoldExit p).counters = s.counters ∧ (s.seatHoldExit p).notices = s.notices ∧
    (s.seatHoldExit p).alerts = s.alerts ∧ (s.seatHoldExit p).response = s.response ∧
    (s.seatHoldExit p).restartArmed = s.restartArmed := by
  unfold State.seatHoldExit
  (repeat' split) <;> simp

@[simp] theorem State.seatHoldExit_reads (s : State) (p : Fin 32) :
    (s.seatHoldExit p).op = s.op ∧ (s.seatHoldExit p).cfg = s.cfg ∧ (s.seatHoldExit p).active = s.active ∧
    (∀ j, (s.seatHoldExit p).client j = s.client j) ∧ (∀ l, (s.seatHoldExit p).radio l = s.radio l) ∧
    (∀ z, (s.seatHoldExit p).alert z = s.alert z) := by
  simp [State.op, State.cfg, State.active, State.client, State.radio, State.alert]

@[simp] theorem State.seatSettleEnd_keeps (s : State) (p : Fin 32) :
    (s.seatSettleEnd p).pending = s.pending ∧ (s.seatSettleEnd p).raised = s.raised ∧
    (s.seatSettleEnd p).now = s.now ∧ (s.seatSettleEnd p).runNow = s.runNow ∧
    (s.seatSettleEnd p).draws = s.draws ∧ (s.seatSettleEnd p).ctl = s.ctl ∧
    (s.seatSettleEnd p).line = s.line ∧ (s.seatSettleEnd p).tally = s.tally ∧
    (s.seatSettleEnd p).claimSeq = s.claimSeq ∧ (s.seatSettleEnd p).sched = s.sched ∧
    (s.seatSettleEnd p).scanTimer = s.scanTimer ∧ (s.seatSettleEnd p).radios = s.radios ∧
    (s.seatSettleEnd p).filter = s.filter ∧ (s.seatSettleEnd p).response = s.response ∧
    (s.seatSettleEnd p).restartArmed = s.restartArmed := by
  unfold State.seatSettleEnd
  (repeat' split) <;> simp

@[simp] theorem State.seatSettleEnd_reads (s : State) (p : Fin 32) :
    (s.seatSettleEnd p).op = s.op ∧ (s.seatSettleEnd p).cfg = s.cfg ∧
    (s.seatSettleEnd p).active = s.active ∧ (∀ l, (s.seatSettleEnd p).radio l = s.radio l) := by
  simp [State.op, State.cfg, State.active, State.radio]

/-! ## Radio links -/

@[simp] theorem State.statusDown_keeps (s : State) (r : Fin 6) (load : Nat) (buffer : Nat) (t : BitVec 16) :
    (s.statusDown r load buffer t).pending = s.pending ∧ (s.statusDown r load buffer t).raised = s.raised ∧
    (s.statusDown r load buffer t).now = s.now ∧ (s.statusDown r load buffer t).runNow = s.runNow ∧
    (s.statusDown r load buffer t).draws = s.draws ∧ (s.statusDown r load buffer t).ctl = s.ctl ∧
    (s.statusDown r load buffer t).line = s.line ∧ (s.statusDown r load buffer t).tally = s.tally ∧
    (s.statusDown r load buffer t).clients = s.clients ∧
    (s.statusDown r load buffer t).claimSeq = s.claimSeq ∧ (s.statusDown r load buffer t).mem = s.mem ∧
    (s.statusDown r load buffer t).sched = s.sched ∧ (s.statusDown r load buffer t).seats = s.seats ∧
    (s.statusDown r load buffer t).scanTimer = s.scanTimer ∧
    (s.statusDown r load buffer t).filter = s.filter ∧ (s.statusDown r load buffer t).notices = s.notices ∧
    (s.statusDown r load buffer t).alerts = s.alerts ∧
    (s.statusDown r load buffer t).response = s.response ∧
    (s.statusDown r load buffer t).restartArmed = s.restartArmed := by
  simp [State.statusDown]

@[simp] theorem State.statusDown_reads (s : State) (r : Fin 6) (load : Nat) (buffer : Nat) (t : BitVec 16) :
    (s.statusDown r load buffer t).op = s.op ∧ (s.statusDown r load buffer t).cfg = s.cfg ∧
    (s.statusDown r load buffer t).active = s.active ∧
    (∀ j, (s.statusDown r load buffer t).client j = s.client j) ∧
    (∀ k, (s.statusDown r load buffer t).seat k = s.seat k) ∧
    (∀ z, (s.statusDown r load buffer t).alert z = s.alert z) := by
  simp [State.op, State.cfg, State.active, State.client, State.seat, State.alert]

@[simp] theorem State.statusUp_keeps (s : State) (r : Fin 6) (load : Nat) (buffer : Nat) (t : BitVec 16) :
    (s.statusUp r load buffer t).pending = s.pending ∧ (s.statusUp r load buffer t).raised = s.raised ∧
    (s.statusUp r load buffer t).now = s.now ∧ (s.statusUp r load buffer t).runNow = s.runNow ∧
    (s.statusUp r load buffer t).draws = s.draws ∧ (s.statusUp r load buffer t).ctl = s.ctl ∧
    (s.statusUp r load buffer t).line = s.line ∧ (s.statusUp r load buffer t).tally = s.tally ∧
    (s.statusUp r load buffer t).clients = s.clients ∧ (s.statusUp r load buffer t).claimSeq = s.claimSeq ∧
    (s.statusUp r load buffer t).sched = s.sched ∧ (s.statusUp r load buffer t).seats = s.seats ∧
    (s.statusUp r load buffer t).scanTimer = s.scanTimer ∧ (s.statusUp r load buffer t).filter = s.filter ∧
    (s.statusUp r load buffer t).notices = s.notices ∧ (s.statusUp r load buffer t).alerts = s.alerts ∧
    (s.statusUp r load buffer t).response = s.response ∧
    (s.statusUp r load buffer t).restartArmed = s.restartArmed := by
  unfold State.statusUp
  dsimp only
  (repeat' split) <;> simp

@[simp] theorem State.statusUp_reads (s : State) (r : Fin 6) (load : Nat) (buffer : Nat) (t : BitVec 16) :
    (s.statusUp r load buffer t).op = s.op ∧ (s.statusUp r load buffer t).cfg = s.cfg ∧
    (s.statusUp r load buffer t).active = s.active ∧
    (∀ j, (s.statusUp r load buffer t).client j = s.client j) ∧
    (∀ k, (s.statusUp r load buffer t).seat k = s.seat k) ∧
    (∀ z, (s.statusUp r load buffer t).alert z = s.alert z) := by
  simp [State.op, State.cfg, State.active, State.client, State.seat, State.alert]

@[simp] theorem State.radioData_keeps (s : State) (r : Fin 6) (frame : List Byte) :
    (s.radioData r frame).pending = s.pending ∧ (s.radioData r frame).raised = s.raised ∧
    (s.radioData r frame).now = s.now ∧ (s.radioData r frame).runNow = s.runNow ∧
    (s.radioData r frame).draws = s.draws ∧ (s.radioData r frame).ctl = s.ctl ∧
    (s.radioData r frame).tally = s.tally ∧ (s.radioData r frame).claimSeq = s.claimSeq ∧
    (s.radioData r frame).scanTimer = s.scanTimer ∧ (s.radioData r frame).radios = s.radios ∧
    (s.radioData r frame).filter = s.filter ∧ (s.radioData r frame).response = s.response ∧
    (s.radioData r frame).restartArmed = s.restartArmed := by
  unfold State.radioData
  (repeat' split) <;> first | (simp; done) | (rename_i h; have e := congrArg Prod.fst h; simp only at e; subst e; simp)

@[simp] theorem State.radioData_reads (s : State) (r : Fin 6) (frame : List Byte) :
    (s.radioData r frame).op = s.op ∧ (s.radioData r frame).cfg = s.cfg ∧
    (s.radioData r frame).active = s.active ∧ (∀ l, (s.radioData r frame).radio l = s.radio l) := by
  simp [State.op, State.cfg, State.active, State.radio]

@[simp] theorem State.radioLeave_keeps (s : State) (r : Fin 6) (a : Addr) (timedOut : Bool) :
    (s.radioLeave r a timedOut).pending = s.pending ∧ (s.radioLeave r a timedOut).raised = s.raised ∧
    (s.radioLeave r a timedOut).now = s.now ∧ (s.radioLeave r a timedOut).runNow = s.runNow ∧
    (s.radioLeave r a timedOut).draws = s.draws ∧ (s.radioLeave r a timedOut).ctl = s.ctl ∧
    (s.radioLeave r a timedOut).line = s.line ∧ (s.radioLeave r a timedOut).tally = s.tally ∧
    (s.radioLeave r a timedOut).claimSeq = s.claimSeq ∧ (s.radioLeave r a timedOut).sched = s.sched ∧
    (s.radioLeave r a timedOut).scanTimer = s.scanTimer ∧ (s.radioLeave r a timedOut).radios = s.radios ∧
    (s.radioLeave r a timedOut).filter = s.filter ∧ (s.radioLeave r a timedOut).response = s.response ∧
    (s.radioLeave r a timedOut).restartArmed = s.restartArmed := by
  unfold State.radioLeave
  (repeat' split) <;> simp

@[simp] theorem State.radioLeave_reads (s : State) (r : Fin 6) (a : Addr) (timedOut : Bool) :
    (s.radioLeave r a timedOut).op = s.op ∧ (s.radioLeave r a timedOut).cfg = s.cfg ∧
    (s.radioLeave r a timedOut).active = s.active ∧
    (∀ l, (s.radioLeave r a timedOut).radio l = s.radio l) := by
  simp [State.op, State.cfg, State.active, State.radio]

@[simp] theorem State.radioTaken_keeps (s : State) (r : Fin 6) (m : RadioMsg) :
    (s.radioTaken r m).pending = s.pending ∧ (s.radioTaken r m).raised = s.raised ∧
    (s.radioTaken r m).now = s.now ∧ (s.radioTaken r m).runNow = s.runNow ∧
    (s.radioTaken r m).draws = s.draws ∧ (s.radioTaken r m).ctl = s.ctl ∧
    (s.radioTaken r m).tally = s.tally ∧ (s.radioTaken r m).scanTimer = s.scanTimer ∧
    (s.radioTaken r m).filter = s.filter ∧ (s.radioTaken r m).response = s.response ∧
    (s.radioTaken r m).restartArmed = s.restartArmed := by
  unfold State.radioTaken
  (repeat' split) <;> simp

@[simp] theorem State.radioTaken_reads (s : State) (r : Fin 6) (m : RadioMsg) :
    (s.radioTaken r m).op = s.op ∧ (s.radioTaken r m).cfg = s.cfg ∧
    (s.radioTaken r m).active = s.active := by
  simp [State.op, State.cfg, State.active]

@[simp] theorem State.radioMessage_keeps (s : State) (r : Fin 6) (bytes : List Byte) :
    (s.radioMessage r bytes).pending = s.pending ∧ (s.radioMessage r bytes).raised = s.raised ∧
    (s.radioMessage r bytes).now = s.now ∧ (s.radioMessage r bytes).runNow = s.runNow ∧
    (s.radioMessage r bytes).draws = s.draws ∧ (s.radioMessage r bytes).ctl = s.ctl ∧
    (s.radioMessage r bytes).tally = s.tally ∧ (s.radioMessage r bytes).scanTimer = s.scanTimer ∧
    (s.radioMessage r bytes).filter = s.filter ∧ (s.radioMessage r bytes).response = s.response ∧
    (s.radioMessage r bytes).restartArmed = s.restartArmed := by
  unfold State.radioMessage
  (repeat' split) <;> simp

@[simp] theorem State.radioMessage_reads (s : State) (r : Fin 6) (bytes : List Byte) :
    (s.radioMessage r bytes).op = s.op ∧ (s.radioMessage r bytes).cfg = s.cfg ∧
    (s.radioMessage r bytes).active = s.active := by
  simp [State.op, State.cfg, State.active]

@[simp] theorem State.cutRadio_keeps (s : State) (r : Fin 6) :
    (s.cutRadio r).pending = s.pending ∧ (s.cutRadio r).raised = s.raised ∧ (s.cutRadio r).now = s.now ∧
    (s.cutRadio r).runNow = s.runNow ∧ (s.cutRadio r).draws = s.draws ∧ (s.cutRadio r).ctl = s.ctl ∧
    (s.cutRadio r).line = s.line ∧ (s.cutRadio r).tally = s.tally ∧ (s.cutRadio r).clients = s.clients ∧
    (s.cutRadio r).claimSeq = s.claimSeq ∧ (s.cutRadio r).mem = s.mem ∧ (s.cutRadio r).sched = s.sched ∧
    (s.cutRadio r).seats = s.seats ∧ (s.cutRadio r).scanTimer = s.scanTimer ∧
    (s.cutRadio r).radios = s.radios ∧ (s.cutRadio r).filter = s.filter ∧
    (s.cutRadio r).notices = s.notices ∧ (s.cutRadio r).alerts = s.alerts ∧
    (s.cutRadio r).response = s.response ∧ (s.cutRadio r).restartArmed = s.restartArmed := by
  unfold State.cutRadio
  (repeat' split) <;> simp

@[simp] theorem State.cutRadio_reads (s : State) (r : Fin 6) :
    (s.cutRadio r).op = s.op ∧ (s.cutRadio r).cfg = s.cfg ∧ (s.cutRadio r).active = s.active ∧
    (∀ j, (s.cutRadio r).client j = s.client j) ∧ (∀ k, (s.cutRadio r).seat k = s.seat k) ∧
    (∀ l, (s.cutRadio r).radio l = s.radio l) ∧ (∀ z, (s.cutRadio r).alert z = s.alert z) := by
  simp [State.op, State.cfg, State.active, State.client, State.seat, State.radio, State.alert]

@[simp] theorem State.stopRadio_keeps (s : State) (r : Fin 6) :
    (s.stopRadio r).pending = s.pending ∧ (s.stopRadio r).raised = s.raised ∧ (s.stopRadio r).now = s.now ∧
    (s.stopRadio r).runNow = s.runNow ∧ (s.stopRadio r).draws = s.draws ∧ (s.stopRadio r).ctl = s.ctl ∧
    (s.stopRadio r).line = s.line ∧ (s.stopRadio r).tally = s.tally ∧ (s.stopRadio r).clients = s.clients ∧
    (s.stopRadio r).claimSeq = s.claimSeq ∧ (s.stopRadio r).sched = s.sched ∧
    (s.stopRadio r).seats = s.seats ∧ (s.stopRadio r).scanTimer = s.scanTimer ∧
    (s.stopRadio r).filter = s.filter ∧ (s.stopRadio r).notices = s.notices ∧
    (s.stopRadio r).alerts = s.alerts ∧ (s.stopRadio r).response = s.response ∧
    (s.stopRadio r).restartArmed = s.restartArmed := by
  simp [State.stopRadio]

@[simp] theorem State.stopRadio_reads (s : State) (r : Fin 6) :
    (s.stopRadio r).op = s.op ∧ (s.stopRadio r).cfg = s.cfg ∧ (s.stopRadio r).active = s.active ∧
    (∀ j, (s.stopRadio r).client j = s.client j) ∧ (∀ k, (s.stopRadio r).seat k = s.seat k) ∧
    (∀ z, (s.stopRadio r).alert z = s.alert z) := by
  simp [State.op, State.cfg, State.active, State.client, State.seat, State.alert]

@[simp] theorem State.radioDown_keeps (s : State) (r : Fin 6) (c : Counter) :
    (s.radioDown r c).pending = s.pending ∧ (s.radioDown r c).raised = s.raised ∧
    (s.radioDown r c).now = s.now ∧ (s.radioDown r c).runNow = s.runNow ∧
    (s.radioDown r c).draws = s.draws ∧ (s.radioDown r c).ctl = s.ctl ∧ (s.radioDown r c).line = s.line ∧
    (s.radioDown r c).tally = s.tally ∧ (s.radioDown r c).claimSeq = s.claimSeq ∧
    (s.radioDown r c).sched = s.sched ∧ (s.radioDown r c).scanTimer = s.scanTimer ∧
    (s.radioDown r c).filter = s.filter ∧ (s.radioDown r c).response = s.response ∧
    (s.radioDown r c).restartArmed = s.restartArmed := by
  simp [State.radioDown]

@[simp] theorem State.radioDown_reads (s : State) (r : Fin 6) (c : Counter) :
    (s.radioDown r c).op = s.op ∧ (s.radioDown r c).cfg = s.cfg ∧ (s.radioDown r c).active = s.active := by
  simp [State.op, State.cfg, State.active]

@[simp] theorem State.radioComplete_keeps (s : State) (r : Fin 6) :
    (s.radioComplete r).pending = s.pending ∧ (s.radioComplete r).raised = s.raised ∧
    (s.radioComplete r).now = s.now ∧ (s.radioComplete r).runNow = s.runNow ∧
    (s.radioComplete r).draws = s.draws ∧ (s.radioComplete r).ctl = s.ctl ∧
    (s.radioComplete r).line = s.line ∧ (s.radioComplete r).tally = s.tally ∧
    (s.radioComplete r).clients = s.clients ∧ (s.radioComplete r).claimSeq = s.claimSeq ∧
    (s.radioComplete r).sched = s.sched ∧ (s.radioComplete r).seats = s.seats ∧
    (s.radioComplete r).scanTimer = s.scanTimer ∧ (s.radioComplete r).filter = s.filter ∧
    (s.radioComplete r).notices = s.notices ∧ (s.radioComplete r).alerts = s.alerts ∧
    (s.radioComplete r).response = s.response ∧ (s.radioComplete r).restartArmed = s.restartArmed := by
  unfold State.radioComplete
  (repeat' split) <;> simp

@[simp] theorem State.radioComplete_reads (s : State) (r : Fin 6) :
    (s.radioComplete r).op = s.op ∧ (s.radioComplete r).cfg = s.cfg ∧
    (s.radioComplete r).active = s.active ∧ (∀ j, (s.radioComplete r).client j = s.client j) ∧
    (∀ k, (s.radioComplete r).seat k = s.seat k) ∧ (∀ z, (s.radioComplete r).alert z = s.alert z) := by
  simp [State.op, State.cfg, State.active, State.client, State.seat, State.alert]

@[simp] theorem State.handDrop_keeps (s : State) (r : Fin 6) (a : Addr) :
    (s.handDrop r a).pending = s.pending ∧ (s.handDrop r a).raised = s.raised ∧
    (s.handDrop r a).now = s.now ∧ (s.handDrop r a).runNow = s.runNow ∧ (s.handDrop r a).draws = s.draws ∧
    (s.handDrop r a).ctl = s.ctl ∧ (s.handDrop r a).line = s.line ∧ (s.handDrop r a).tally = s.tally ∧
    (s.handDrop r a).clients = s.clients ∧ (s.handDrop r a).claimSeq = s.claimSeq ∧
    (s.handDrop r a).sched = s.sched ∧ (s.handDrop r a).seats = s.seats ∧
    (s.handDrop r a).scanTimer = s.scanTimer ∧ (s.handDrop r a).filter = s.filter ∧
    (s.handDrop r a).notices = s.notices ∧ (s.handDrop r a).alerts = s.alerts ∧
    (s.handDrop r a).response = s.response ∧ (s.handDrop r a).restartArmed = s.restartArmed := by
  unfold State.handDrop
  (repeat' split) <;> simp

@[simp] theorem State.handDrop_reads (s : State) (r : Fin 6) (a : Addr) :
    (s.handDrop r a).op = s.op ∧ (s.handDrop r a).cfg = s.cfg ∧ (s.handDrop r a).active = s.active ∧
    (∀ j, (s.handDrop r a).client j = s.client j) ∧ (∀ k, (s.handDrop r a).seat k = s.seat k) ∧
    (∀ z, (s.handDrop r a).alert z = s.alert z) := by
  simp [State.op, State.cfg, State.active, State.client, State.seat, State.alert]

@[simp] theorem State.radioHold_keeps (s : State) (r : Fin 6) :
    (s.radioHold r).pending = s.pending ∧ (s.radioHold r).raised = s.raised ∧ (s.radioHold r).now = s.now ∧
    (s.radioHold r).runNow = s.runNow ∧ (s.radioHold r).draws = s.draws ∧ (s.radioHold r).ctl = s.ctl ∧
    (s.radioHold r).line = s.line ∧ (s.radioHold r).tally = s.tally ∧ (s.radioHold r).clients = s.clients ∧
    (s.radioHold r).claimSeq = s.claimSeq ∧ (s.radioHold r).sched = s.sched ∧
    (s.radioHold r).seats = s.seats ∧ (s.radioHold r).scanTimer = s.scanTimer ∧
    (s.radioHold r).filter = s.filter ∧ (s.radioHold r).notices = s.notices ∧
    (s.radioHold r).alerts = s.alerts ∧ (s.radioHold r).response = s.response ∧
    (s.radioHold r).restartArmed = s.restartArmed := by
  simp [State.radioHold]

@[simp] theorem State.radioHold_reads (s : State) (r : Fin 6) :
    (s.radioHold r).op = s.op ∧ (s.radioHold r).cfg = s.cfg ∧ (s.radioHold r).active = s.active ∧
    (∀ j, (s.radioHold r).client j = s.client j) ∧ (∀ k, (s.radioHold r).seat k = s.seat k) ∧
    (∀ z, (s.radioHold r).alert z = s.alert z) := by
  simp [State.op, State.cfg, State.active, State.client, State.seat, State.alert]

@[simp] theorem State.radioHoldExit_keeps (s : State) (r : Fin 6) :
    (s.radioHoldExit r).pending = s.pending ∧ (s.radioHoldExit r).raised = s.raised ∧
    (s.radioHoldExit r).now = s.now ∧ (s.radioHoldExit r).runNow = s.runNow ∧
    (s.radioHoldExit r).draws = s.draws ∧ (s.radioHoldExit r).ctl = s.ctl ∧
    (s.radioHoldExit r).line = s.line ∧ (s.radioHoldExit r).tally = s.tally ∧
    (s.radioHoldExit r).claimSeq = s.claimSeq ∧ (s.radioHoldExit r).sched = s.sched ∧
    (s.radioHoldExit r).scanTimer = s.scanTimer ∧ (s.radioHoldExit r).filter = s.filter ∧
    (s.radioHoldExit r).response = s.response ∧ (s.radioHoldExit r).restartArmed = s.restartArmed := by
  unfold State.radioHoldExit
  (repeat' split) <;> simp

@[simp] theorem State.radioHoldExit_reads (s : State) (r : Fin 6) :
    (s.radioHoldExit r).op = s.op ∧ (s.radioHoldExit r).cfg = s.cfg ∧
    (s.radioHoldExit r).active = s.active := by
  simp [State.op, State.cfg, State.active]

/-! ## Downlink delivery -/

@[simp] theorem State.placeSeat_keeps (s : State) (p : Fin 32) (pos : EgressPos) :
    (s.placeSeat p pos).pending = s.pending ∧ (s.placeSeat p pos).raised = s.raised ∧
    (s.placeSeat p pos).now = s.now ∧ (s.placeSeat p pos).runNow = s.runNow ∧
    (s.placeSeat p pos).draws = s.draws ∧ (s.placeSeat p pos).ctl = s.ctl ∧
    (s.placeSeat p pos).line = s.line ∧ (s.placeSeat p pos).tally = s.tally ∧
    (s.placeSeat p pos).clients = s.clients ∧ (s.placeSeat p pos).claimSeq = s.claimSeq ∧
    (s.placeSeat p pos).sched = s.sched ∧ (s.placeSeat p pos).scanTimer = s.scanTimer ∧
    (s.placeSeat p pos).radios = s.radios ∧ (s.placeSeat p pos).filter = s.filter ∧
    (s.placeSeat p pos).notices = s.notices ∧ (s.placeSeat p pos).alerts = s.alerts ∧
    (s.placeSeat p pos).response = s.response ∧ (s.placeSeat p pos).restartArmed = s.restartArmed := by
  simp [State.placeSeat]

@[simp] theorem State.placeSeat_reads (s : State) (p : Fin 32) (pos : EgressPos) :
    (s.placeSeat p pos).op = s.op ∧ (s.placeSeat p pos).cfg = s.cfg ∧
    (s.placeSeat p pos).active = s.active ∧ (∀ j, (s.placeSeat p pos).client j = s.client j) ∧
    (∀ l, (s.placeSeat p pos).radio l = s.radio l) ∧ (∀ z, (s.placeSeat p pos).alert z = s.alert z) := by
  simp [State.op, State.cfg, State.active, State.client, State.radio, State.alert]

@[simp] theorem State.placeRadio_keeps (s : State) (r : Fin 6) (pos : EgressPos) :
    (s.placeRadio r pos).pending = s.pending ∧ (s.placeRadio r pos).raised = s.raised ∧
    (s.placeRadio r pos).now = s.now ∧ (s.placeRadio r pos).runNow = s.runNow ∧
    (s.placeRadio r pos).draws = s.draws ∧ (s.placeRadio r pos).ctl = s.ctl ∧
    (s.placeRadio r pos).line = s.line ∧ (s.placeRadio r pos).tally = s.tally ∧
    (s.placeRadio r pos).clients = s.clients ∧ (s.placeRadio r pos).claimSeq = s.claimSeq ∧
    (s.placeRadio r pos).sched = s.sched ∧ (s.placeRadio r pos).seats = s.seats ∧
    (s.placeRadio r pos).scanTimer = s.scanTimer ∧ (s.placeRadio r pos).filter = s.filter ∧
    (s.placeRadio r pos).notices = s.notices ∧ (s.placeRadio r pos).alerts = s.alerts ∧
    (s.placeRadio r pos).response = s.response ∧ (s.placeRadio r pos).restartArmed = s.restartArmed := by
  simp [State.placeRadio]

@[simp] theorem State.placeRadio_reads (s : State) (r : Fin 6) (pos : EgressPos) :
    (s.placeRadio r pos).op = s.op ∧ (s.placeRadio r pos).cfg = s.cfg ∧
    (s.placeRadio r pos).active = s.active ∧ (∀ j, (s.placeRadio r pos).client j = s.client j) ∧
    (∀ k, (s.placeRadio r pos).seat k = s.seat k) ∧ (∀ z, (s.placeRadio r pos).alert z = s.alert z) := by
  simp [State.op, State.cfg, State.active, State.client, State.seat, State.alert]

@[simp] theorem State.countGroupRefusals_keeps (s : State) (b : Nat) :
    (s.countGroupRefusals b).pending = s.pending ∧ (s.countGroupRefusals b).raised = s.raised ∧
    (s.countGroupRefusals b).now = s.now ∧ (s.countGroupRefusals b).runNow = s.runNow ∧
    (s.countGroupRefusals b).draws = s.draws ∧ (s.countGroupRefusals b).ctl = s.ctl ∧
    (s.countGroupRefusals b).line = s.line ∧ (s.countGroupRefusals b).tally = s.tally ∧
    (s.countGroupRefusals b).clients = s.clients ∧ (s.countGroupRefusals b).claimSeq = s.claimSeq ∧
    (s.countGroupRefusals b).mem = s.mem ∧ (s.countGroupRefusals b).sched = s.sched ∧
    (s.countGroupRefusals b).seats = s.seats ∧ (s.countGroupRefusals b).scanTimer = s.scanTimer ∧
    (s.countGroupRefusals b).radios = s.radios ∧ (s.countGroupRefusals b).filter = s.filter ∧
    (s.countGroupRefusals b).notices = s.notices ∧ (s.countGroupRefusals b).alerts = s.alerts ∧
    (s.countGroupRefusals b).response = s.response ∧
    (s.countGroupRefusals b).restartArmed = s.restartArmed := by
  simp [State.countGroupRefusals]

@[simp] theorem State.countGroupRefusals_reads (s : State) (b : Nat) :
    (s.countGroupRefusals b).op = s.op ∧ (s.countGroupRefusals b).cfg = s.cfg ∧
    (s.countGroupRefusals b).active = s.active ∧ (∀ j, (s.countGroupRefusals b).client j = s.client j) ∧
    (∀ k, (s.countGroupRefusals b).seat k = s.seat k) ∧
    (∀ l, (s.countGroupRefusals b).radio l = s.radio l) ∧
    (∀ z, (s.countGroupRefusals b).alert z = s.alert z) := by
  simp [State.op, State.cfg, State.active, State.client, State.seat, State.radio, State.alert]

@[simp] theorem State.placeGroup_keeps (s : State) (f : Frame) (ports : List (Fin 32)) (radios : List
    (Fin 6)) :
    (s.placeGroup f ports radios).pending = s.pending ∧ (s.placeGroup f ports radios).raised = s.raised ∧
    (s.placeGroup f ports radios).now = s.now ∧ (s.placeGroup f ports radios).runNow = s.runNow ∧
    (s.placeGroup f ports radios).draws = s.draws ∧ (s.placeGroup f ports radios).ctl = s.ctl ∧
    (s.placeGroup f ports radios).line = s.line ∧ (s.placeGroup f ports radios).tally = s.tally ∧
    (s.placeGroup f ports radios).clients = s.clients ∧
    (s.placeGroup f ports radios).claimSeq = s.claimSeq ∧ (s.placeGroup f ports radios).sched = s.sched ∧
    (s.placeGroup f ports radios).scanTimer = s.scanTimer ∧
    (s.placeGroup f ports radios).filter = s.filter ∧ (s.placeGroup f ports radios).notices = s.notices ∧
    (s.placeGroup f ports radios).alerts = s.alerts ∧ (s.placeGroup f ports radios).response = s.response ∧
    (s.placeGroup f ports radios).restartArmed = s.restartArmed := by
  unfold State.placeGroup
  (repeat' apply And.intro) <;>
    exact (State.foldl_keeps _ _ (by intros; simp) _ _).trans (State.foldl_keeps _ _ (by intros; simp) _ _)

@[simp] theorem State.placeGroup_reads (s : State) (f : Frame) (ports : List (Fin 32)) (radios : List
    (Fin 6)) :
    (s.placeGroup f ports radios).op = s.op ∧ (s.placeGroup f ports radios).cfg = s.cfg ∧
    (s.placeGroup f ports radios).active = s.active ∧
    (∀ j, (s.placeGroup f ports radios).client j = s.client j) ∧
    (∀ z, (s.placeGroup f ports radios).alert z = s.alert z) := by
  simp [State.op, State.cfg, State.active, State.client, State.alert]

@[simp] theorem State.fanOut_keeps (s : State) (data : List Byte) :
    (s.fanOut data).pending = s.pending ∧ (s.fanOut data).raised = s.raised ∧ (s.fanOut data).now = s.now ∧
    (s.fanOut data).runNow = s.runNow ∧ (s.fanOut data).draws = s.draws ∧ (s.fanOut data).ctl = s.ctl ∧
    (s.fanOut data).line = s.line ∧ (s.fanOut data).tally = s.tally ∧ (s.fanOut data).clients = s.clients ∧
    (s.fanOut data).claimSeq = s.claimSeq ∧ (s.fanOut data).sched = s.sched ∧
    (s.fanOut data).scanTimer = s.scanTimer ∧ (s.fanOut data).filter = s.filter ∧
    (s.fanOut data).notices = s.notices ∧ (s.fanOut data).alerts = s.alerts ∧
    (s.fanOut data).response = s.response ∧ (s.fanOut data).restartArmed = s.restartArmed := by
  have h := s.allocDownlink_keeps data.length
  unfold State.fanOut
  generalize s.allocDownlink data.length = x at h
  obtain ⟨s1, _ | b⟩ := x <;> dsimp only at h ⊢
  · simp [h]
  · split <;> simp [h]

@[simp] theorem State.fanOut_reads (s : State) (data : List Byte) :
    (s.fanOut data).op = s.op ∧ (s.fanOut data).cfg = s.cfg ∧ (s.fanOut data).active = s.active ∧
    (∀ j, (s.fanOut data).client j = s.client j) ∧ (∀ z, (s.fanOut data).alert z = s.alert z) := by
  simp [State.op, State.cfg, State.active, State.client, State.alert]

@[simp] theorem State.downGroup_keeps (s0 : State) (data : List Byte) :
    (s0.downGroup data).pending = s0.pending ∧ (s0.downGroup data).raised = s0.raised ∧
    (s0.downGroup data).now = s0.now ∧ (s0.downGroup data).runNow = s0.runNow ∧
    (s0.downGroup data).draws = s0.draws ∧ (s0.downGroup data).ctl = s0.ctl ∧
    (s0.downGroup data).line = s0.line ∧ (s0.downGroup data).tally = s0.tally ∧
    (s0.downGroup data).clients = s0.clients ∧ (s0.downGroup data).claimSeq = s0.claimSeq ∧
    (s0.downGroup data).sched = s0.sched ∧ (s0.downGroup data).scanTimer = s0.scanTimer ∧
    (s0.downGroup data).filter = s0.filter ∧ (s0.downGroup data).notices = s0.notices ∧
    (s0.downGroup data).alerts = s0.alerts ∧ (s0.downGroup data).response = s0.response ∧
    (s0.downGroup data).restartArmed = s0.restartArmed := by
  unfold State.downGroup
  dsimp only
  (repeat' split) <;> simp

@[simp] theorem State.downGroup_reads (s0 : State) (data : List Byte) :
    (s0.downGroup data).op = s0.op ∧ (s0.downGroup data).cfg = s0.cfg ∧
    (s0.downGroup data).active = s0.active ∧ (∀ j, (s0.downGroup data).client j = s0.client j) ∧
    (∀ z, (s0.downGroup data).alert z = s0.alert z) := by
  simp [State.op, State.cfg, State.active, State.client, State.alert]

@[simp] theorem State.placeAt_keeps (s : State) (a : Attachment) (pos : EgressPos) :
    (s.placeAt a pos).pending = s.pending ∧ (s.placeAt a pos).raised = s.raised ∧
    (s.placeAt a pos).now = s.now ∧ (s.placeAt a pos).runNow = s.runNow ∧
    (s.placeAt a pos).draws = s.draws ∧ (s.placeAt a pos).ctl = s.ctl ∧ (s.placeAt a pos).line = s.line ∧
    (s.placeAt a pos).tally = s.tally ∧ (s.placeAt a pos).clients = s.clients ∧
    (s.placeAt a pos).claimSeq = s.claimSeq ∧ (s.placeAt a pos).sched = s.sched ∧
    (s.placeAt a pos).scanTimer = s.scanTimer ∧ (s.placeAt a pos).filter = s.filter ∧
    (s.placeAt a pos).notices = s.notices ∧ (s.placeAt a pos).alerts = s.alerts ∧
    (s.placeAt a pos).response = s.response ∧ (s.placeAt a pos).restartArmed = s.restartArmed := by
  unfold State.placeAt
  (repeat' split) <;> simp

@[simp] theorem State.placeAt_reads (s : State) (a : Attachment) (pos : EgressPos) :
    (s.placeAt a pos).op = s.op ∧ (s.placeAt a pos).cfg = s.cfg ∧ (s.placeAt a pos).active = s.active ∧
    (∀ j, (s.placeAt a pos).client j = s.client j) ∧ (∀ z, (s.placeAt a pos).alert z = s.alert z) := by
  simp [State.op, State.cfg, State.active, State.client, State.alert]

@[simp] theorem State.queueUnicast_keeps (s : State) (i : Fin 256) (data : List Byte) :
    (s.queueUnicast i data).pending = s.pending ∧ (s.queueUnicast i data).raised = s.raised ∧
    (s.queueUnicast i data).now = s.now ∧ (s.queueUnicast i data).runNow = s.runNow ∧
    (s.queueUnicast i data).draws = s.draws ∧ (s.queueUnicast i data).ctl = s.ctl ∧
    (s.queueUnicast i data).line = s.line ∧ (s.queueUnicast i data).tally = s.tally ∧
    (s.queueUnicast i data).clients = s.clients ∧ (s.queueUnicast i data).claimSeq = s.claimSeq ∧
    (s.queueUnicast i data).sched = s.sched ∧ (s.queueUnicast i data).scanTimer = s.scanTimer ∧
    (s.queueUnicast i data).filter = s.filter ∧ (s.queueUnicast i data).notices = s.notices ∧
    (s.queueUnicast i data).alerts = s.alerts ∧ (s.queueUnicast i data).response = s.response ∧
    (s.queueUnicast i data).restartArmed = s.restartArmed := by
  unfold State.queueUnicast
  dsimp only
  (repeat' split) <;> first | (simp; done) | (rename_i h; have e := congrArg Prod.fst h; simp only at e; subst e; simp)

@[simp] theorem State.queueUnicast_reads (s : State) (i : Fin 256) (data : List Byte) :
    (s.queueUnicast i data).op = s.op ∧ (s.queueUnicast i data).cfg = s.cfg ∧
    (s.queueUnicast i data).active = s.active ∧ (∀ j, (s.queueUnicast i data).client j = s.client j) ∧
    (∀ z, (s.queueUnicast i data).alert z = s.alert z) := by
  simp [State.op, State.cfg, State.active, State.client, State.alert]

@[simp] theorem State.downUnicast_keeps (s0 : State) (data : List Byte) :
    (s0.downUnicast data).pending = s0.pending ∧ (s0.downUnicast data).raised = s0.raised ∧
    (s0.downUnicast data).now = s0.now ∧ (s0.downUnicast data).runNow = s0.runNow ∧
    (s0.downUnicast data).draws = s0.draws ∧ (s0.downUnicast data).ctl = s0.ctl ∧
    (s0.downUnicast data).line = s0.line ∧ (s0.downUnicast data).tally = s0.tally ∧
    (s0.downUnicast data).clients = s0.clients ∧ (s0.downUnicast data).claimSeq = s0.claimSeq ∧
    (s0.downUnicast data).sched = s0.sched ∧ (s0.downUnicast data).scanTimer = s0.scanTimer ∧
    (s0.downUnicast data).filter = s0.filter ∧ (s0.downUnicast data).notices = s0.notices ∧
    (s0.downUnicast data).alerts = s0.alerts ∧ (s0.downUnicast data).response = s0.response ∧
    (s0.downUnicast data).restartArmed = s0.restartArmed := by
  unfold State.downUnicast
  dsimp only
  (repeat' split) <;> simp

@[simp] theorem State.downUnicast_reads (s0 : State) (data : List Byte) :
    (s0.downUnicast data).op = s0.op ∧ (s0.downUnicast data).cfg = s0.cfg ∧
    (s0.downUnicast data).active = s0.active ∧ (∀ j, (s0.downUnicast data).client j = s0.client j) ∧
    (∀ z, (s0.downUnicast data).alert z = s0.alert z) := by
  simp [State.op, State.cfg, State.active, State.client, State.alert]

@[simp] theorem State.downlink_keeps (s : State) (data : List Byte) :
    (s.downlink data).pending = s.pending ∧ (s.downlink data).raised = s.raised ∧
    (s.downlink data).now = s.now ∧ (s.downlink data).runNow = s.runNow ∧
    (s.downlink data).draws = s.draws ∧ (s.downlink data).ctl = s.ctl ∧ (s.downlink data).line = s.line ∧
    (s.downlink data).tally = s.tally ∧ (s.downlink data).clients = s.clients ∧
    (s.downlink data).claimSeq = s.claimSeq ∧ (s.downlink data).sched = s.sched ∧
    (s.downlink data).scanTimer = s.scanTimer ∧ (s.downlink data).filter = s.filter ∧
    (s.downlink data).notices = s.notices ∧ (s.downlink data).alerts = s.alerts ∧
    (s.downlink data).response = s.response ∧ (s.downlink data).restartArmed = s.restartArmed := by
  unfold State.downlink
  (repeat' split) <;> simp

@[simp] theorem State.downlink_reads (s : State) (data : List Byte) :
    (s.downlink data).op = s.op ∧ (s.downlink data).cfg = s.cfg ∧ (s.downlink data).active = s.active ∧
    (∀ j, (s.downlink data).client j = s.client j) ∧ (∀ z, (s.downlink data).alert z = s.alert z) := by
  simp [State.op, State.cfg, State.active, State.client, State.alert]

/-! ## The tally engine -/

@[simp] theorem State.tallyKnown_keeps (s : State) (e : Peer) (seq : BitVec 8) (t : TallyBody) :
    (s.tallyKnown e seq t).pending = s.pending ∧ (s.tallyKnown e seq t).raised = s.raised ∧
    (s.tallyKnown e seq t).now = s.now ∧ (s.tallyKnown e seq t).runNow = s.runNow ∧
    (s.tallyKnown e seq t).draws = s.draws ∧ (s.tallyKnown e seq t).ctl = s.ctl ∧
    (s.tallyKnown e seq t).line = s.line ∧ (s.tallyKnown e seq t).clients = s.clients ∧
    (s.tallyKnown e seq t).claimSeq = s.claimSeq ∧ (s.tallyKnown e seq t).mem = s.mem ∧
    (s.tallyKnown e seq t).sched = s.sched ∧ (s.tallyKnown e seq t).seats = s.seats ∧
    (s.tallyKnown e seq t).scanTimer = s.scanTimer ∧ (s.tallyKnown e seq t).radios = s.radios ∧
    (s.tallyKnown e seq t).filter = s.filter ∧ (s.tallyKnown e seq t).notices = s.notices ∧
    (s.tallyKnown e seq t).alerts = s.alerts ∧ (s.tallyKnown e seq t).response = s.response ∧
    (s.tallyKnown e seq t).restartArmed = s.restartArmed := by
  unfold State.tallyKnown
  (repeat' split) <;> simp

@[simp] theorem State.tallyKnown_reads (s : State) (e : Peer) (seq : BitVec 8) (t : TallyBody) :
    (s.tallyKnown e seq t).op = s.op ∧ (s.tallyKnown e seq t).cfg = s.cfg ∧
    (s.tallyKnown e seq t).active = s.active ∧ (∀ j, (s.tallyKnown e seq t).client j = s.client j) ∧
    (∀ k, (s.tallyKnown e seq t).seat k = s.seat k) ∧ (∀ l, (s.tallyKnown e seq t).radio l = s.radio l) ∧
    (∀ z, (s.tallyKnown e seq t).alert z = s.alert z) := by
  simp [State.op, State.cfg, State.active, State.client, State.seat, State.radio, State.alert]

@[simp] theorem State.tallyUnknown_keeps (s : State) (station : Nat) (seq : BitVec 8) (t : TallyBody) :
    (s.tallyUnknown station seq t).pending = s.pending ∧ (s.tallyUnknown station seq t).raised = s.raised ∧
    (s.tallyUnknown station seq t).now = s.now ∧ (s.tallyUnknown station seq t).runNow = s.runNow ∧
    (s.tallyUnknown station seq t).draws = s.draws ∧ (s.tallyUnknown station seq t).ctl = s.ctl ∧
    (s.tallyUnknown station seq t).line = s.line ∧ (s.tallyUnknown station seq t).clients = s.clients ∧
    (s.tallyUnknown station seq t).claimSeq = s.claimSeq ∧ (s.tallyUnknown station seq t).mem = s.mem ∧
    (s.tallyUnknown station seq t).sched = s.sched ∧ (s.tallyUnknown station seq t).seats = s.seats ∧
    (s.tallyUnknown station seq t).scanTimer = s.scanTimer ∧
    (s.tallyUnknown station seq t).radios = s.radios ∧ (s.tallyUnknown station seq t).filter = s.filter ∧
    (s.tallyUnknown station seq t).response = s.response ∧
    (s.tallyUnknown station seq t).restartArmed = s.restartArmed := by
  unfold State.tallyUnknown
  (repeat' split) <;> simp

@[simp] theorem State.tallyUnknown_reads (s : State) (station : Nat) (seq : BitVec 8) (t : TallyBody) :
    (s.tallyUnknown station seq t).op = s.op ∧ (s.tallyUnknown station seq t).cfg = s.cfg ∧
    (s.tallyUnknown station seq t).active = s.active ∧
    (∀ j, (s.tallyUnknown station seq t).client j = s.client j) ∧
    (∀ k, (s.tallyUnknown station seq t).seat k = s.seat k) ∧
    (∀ l, (s.tallyUnknown station seq t).radio l = s.radio l) := by
  simp [State.op, State.cfg, State.active, State.client, State.seat, State.radio]

@[simp] theorem State.tallyArrival_keeps (s : State) (station : Nat) (seq : BitVec 8) (t : TallyBody) :
    (s.tallyArrival station seq t).pending = s.pending ∧ (s.tallyArrival station seq t).raised = s.raised ∧
    (s.tallyArrival station seq t).now = s.now ∧ (s.tallyArrival station seq t).runNow = s.runNow ∧
    (s.tallyArrival station seq t).draws = s.draws ∧ (s.tallyArrival station seq t).ctl = s.ctl ∧
    (s.tallyArrival station seq t).line = s.line ∧ (s.tallyArrival station seq t).clients = s.clients ∧
    (s.tallyArrival station seq t).claimSeq = s.claimSeq ∧ (s.tallyArrival station seq t).mem = s.mem ∧
    (s.tallyArrival station seq t).sched = s.sched ∧ (s.tallyArrival station seq t).seats = s.seats ∧
    (s.tallyArrival station seq t).scanTimer = s.scanTimer ∧
    (s.tallyArrival station seq t).radios = s.radios ∧ (s.tallyArrival station seq t).filter = s.filter ∧
    (s.tallyArrival station seq t).response = s.response ∧
    (s.tallyArrival station seq t).restartArmed = s.restartArmed := by
  unfold State.tallyArrival
  (repeat' split) <;> simp

@[simp] theorem State.tallyArrival_reads (s : State) (station : Nat) (seq : BitVec 8) (t : TallyBody) :
    (s.tallyArrival station seq t).op = s.op ∧ (s.tallyArrival station seq t).cfg = s.cfg ∧
    (s.tallyArrival station seq t).active = s.active ∧
    (∀ j, (s.tallyArrival station seq t).client j = s.client j) ∧
    (∀ k, (s.tallyArrival station seq t).seat k = s.seat k) ∧
    (∀ l, (s.tallyArrival station seq t).radio l = s.radio l) := by
  simp [State.op, State.cfg, State.active, State.client, State.seat, State.radio]

@[simp] theorem State.expirePeer_keeps (s : State) (station : Nat) :
    (s.expirePeer station).pending = s.pending ∧ (s.expirePeer station).raised = s.raised ∧
    (s.expirePeer station).now = s.now ∧ (s.expirePeer station).runNow = s.runNow ∧
    (s.expirePeer station).draws = s.draws ∧ (s.expirePeer station).ctl = s.ctl ∧
    (s.expirePeer station).line = s.line ∧ (s.expirePeer station).clients = s.clients ∧
    (s.expirePeer station).claimSeq = s.claimSeq ∧ (s.expirePeer station).mem = s.mem ∧
    (s.expirePeer station).sched = s.sched ∧ (s.expirePeer station).seats = s.seats ∧
    (s.expirePeer station).scanTimer = s.scanTimer ∧ (s.expirePeer station).radios = s.radios ∧
    (s.expirePeer station).filter = s.filter ∧ (s.expirePeer station).response = s.response ∧
    (s.expirePeer station).restartArmed = s.restartArmed := by
  simp [State.expirePeer]

@[simp] theorem State.expirePeer_reads (s : State) (station : Nat) :
    (s.expirePeer station).op = s.op ∧ (s.expirePeer station).cfg = s.cfg ∧
    (s.expirePeer station).active = s.active ∧ (∀ j, (s.expirePeer station).client j = s.client j) ∧
    (∀ k, (s.expirePeer station).seat k = s.seat k) ∧
    (∀ l, (s.expirePeer station).radio l = s.radio l) := by
  simp [State.op, State.cfg, State.active, State.client, State.seat, State.radio]

@[simp] theorem State.conflictReport_keeps (s : State) :
    (s.conflictReport).pending = s.pending ∧ (s.conflictReport).raised = s.raised ∧
    (s.conflictReport).now = s.now ∧ (s.conflictReport).runNow = s.runNow ∧
    (s.conflictReport).draws = s.draws ∧ (s.conflictReport).ctl = s.ctl ∧ (s.conflictReport).line = s.line ∧
    (s.conflictReport).clients = s.clients ∧ (s.conflictReport).claimSeq = s.claimSeq ∧
    (s.conflictReport).mem = s.mem ∧ (s.conflictReport).sched = s.sched ∧
    (s.conflictReport).seats = s.seats ∧ (s.conflictReport).scanTimer = s.scanTimer ∧
    (s.conflictReport).radios = s.radios ∧ (s.conflictReport).filter = s.filter ∧
    (s.conflictReport).notices = s.notices ∧ (s.conflictReport).response = s.response ∧
    (s.conflictReport).restartArmed = s.restartArmed := by
  unfold State.conflictReport
  (repeat' split) <;> simp

@[simp] theorem State.conflictReport_reads (s : State) :
    (s.conflictReport).op = s.op ∧ (s.conflictReport).cfg = s.cfg ∧ (s.conflictReport).active = s.active ∧
    (∀ j, (s.conflictReport).client j = s.client j) ∧ (∀ k, (s.conflictReport).seat k = s.seat k) ∧
    (∀ l, (s.conflictReport).radio l = s.radio l) := by
  simp [State.op, State.cfg, State.active, State.client, State.seat, State.radio]

@[simp] theorem State.setLast_keeps (s : State) (d : Nat) (w : Nat) (a : Nat) :
    (s.setLast d w a).pending = s.pending ∧ (s.setLast d w a).raised = s.raised ∧
    (s.setLast d w a).now = s.now ∧ (s.setLast d w a).runNow = s.runNow ∧
    (s.setLast d w a).draws = s.draws ∧ (s.setLast d w a).ctl = s.ctl ∧ (s.setLast d w a).line = s.line ∧
    (s.setLast d w a).clients = s.clients ∧ (s.setLast d w a).claimSeq = s.claimSeq ∧
    (s.setLast d w a).mem = s.mem ∧ (s.setLast d w a).sched = s.sched ∧ (s.setLast d w a).seats = s.seats ∧
    (s.setLast d w a).scanTimer = s.scanTimer ∧ (s.setLast d w a).radios = s.radios ∧
    (s.setLast d w a).filter = s.filter ∧ (s.setLast d w a).counters = s.counters ∧
    (s.setLast d w a).notices = s.notices ∧ (s.setLast d w a).alerts = s.alerts ∧
    (s.setLast d w a).response = s.response ∧ (s.setLast d w a).restartArmed = s.restartArmed := by
  unfold State.setLast
  (repeat' split) <;> simp

@[simp] theorem State.setLast_reads (s : State) (d : Nat) (w : Nat) (a : Nat) :
    (s.setLast d w a).op = s.op ∧ (s.setLast d w a).cfg = s.cfg ∧ (s.setLast d w a).active = s.active ∧
    (∀ j, (s.setLast d w a).client j = s.client j) ∧ (∀ k, (s.setLast d w a).seat k = s.seat k) ∧
    (∀ l, (s.setLast d w a).radio l = s.radio l) ∧ (∀ z, (s.setLast d w a).alert z = s.alert z) := by
  simp [State.op, State.cfg, State.active, State.client, State.seat, State.radio, State.alert]

@[simp] theorem State.ownCycle_keeps (s : State) :
    (s.ownCycle).pending = s.pending ∧ (s.ownCycle).raised = s.raised ∧ (s.ownCycle).now = s.now ∧
    (s.ownCycle).runNow = s.runNow ∧ (s.ownCycle).draws = s.draws ∧ (s.ownCycle).ctl = s.ctl ∧
    (s.ownCycle).claimSeq = s.claimSeq ∧ (s.ownCycle).scanTimer = s.scanTimer ∧
    (s.ownCycle).radios = s.radios ∧ (s.ownCycle).filter = s.filter ∧ (s.ownCycle).response = s.response ∧
    (s.ownCycle).restartArmed = s.restartArmed := by
  simp [State.ownCycle]

@[simp] theorem State.ownCycle_reads (s : State) :
    (s.ownCycle).op = s.op ∧ (s.ownCycle).cfg = s.cfg ∧ (s.ownCycle).active = s.active ∧
    (∀ l, (s.ownCycle).radio l = s.radio l) := by
  simp [State.op, State.cfg, State.active, State.radio]

/-! ## Line arrivals -/

@[simp] theorem State.passOn_keeps (s : State) (h : Header) (b : Body) :
    (s.passOn h b).pending = s.pending ∧ (s.passOn h b).raised = s.raised ∧ (s.passOn h b).now = s.now ∧
    (s.passOn h b).runNow = s.runNow ∧ (s.passOn h b).draws = s.draws ∧ (s.passOn h b).ctl = s.ctl ∧
    (s.passOn h b).scanTimer = s.scanTimer ∧ (s.passOn h b).filter = s.filter ∧
    (s.passOn h b).response = s.response ∧ (s.passOn h b).restartArmed = s.restartArmed := by
  unfold State.passOn
  (repeat' split) <;> simp

@[simp] theorem State.passOn_reads (s : State) (h : Header) (b : Body) :
    (s.passOn h b).op = s.op ∧ (s.passOn h b).cfg = s.cfg ∧ (s.passOn h b).active = s.active := by
  simp [State.op, State.cfg, State.active]

@[simp] theorem State.lineArrival_keeps (s : State) (bytes : List Byte) :
    (s.lineArrival bytes).pending = s.pending ∧ (s.lineArrival bytes).raised = s.raised ∧
    (s.lineArrival bytes).now = s.now ∧ (s.lineArrival bytes).runNow = s.runNow ∧
    (s.lineArrival bytes).draws = s.draws ∧ (s.lineArrival bytes).ctl = s.ctl ∧
    (s.lineArrival bytes).scanTimer = s.scanTimer ∧ (s.lineArrival bytes).filter = s.filter ∧
    (s.lineArrival bytes).response = s.response ∧ (s.lineArrival bytes).restartArmed = s.restartArmed := by
  unfold State.lineArrival
  (repeat' split) <;> simp

@[simp] theorem State.lineArrival_reads (s : State) (bytes : List Byte) :
    (s.lineArrival bytes).op = s.op ∧ (s.lineArrival bytes).cfg = s.cfg ∧
    (s.lineArrival bytes).active = s.active := by
  simp [State.op, State.cfg, State.active]

@[simp] theorem State.lineArrivalUnconfigured_keeps (s : State) (bytes : List Byte) :
    (s.lineArrivalUnconfigured bytes).pending = s.pending ∧
    (s.lineArrivalUnconfigured bytes).raised = s.raised ∧ (s.lineArrivalUnconfigured bytes).now = s.now ∧
    (s.lineArrivalUnconfigured bytes).runNow = s.runNow ∧
    (s.lineArrivalUnconfigured bytes).draws = s.draws ∧ (s.lineArrivalUnconfigured bytes).ctl = s.ctl ∧
    (s.lineArrivalUnconfigured bytes).line = s.line ∧ (s.lineArrivalUnconfigured bytes).tally = s.tally ∧
    (s.lineArrivalUnconfigured bytes).clients = s.clients ∧
    (s.lineArrivalUnconfigured bytes).claimSeq = s.claimSeq ∧
    (s.lineArrivalUnconfigured bytes).mem = s.mem ∧ (s.lineArrivalUnconfigured bytes).sched = s.sched ∧
    (s.lineArrivalUnconfigured bytes).seats = s.seats ∧
    (s.lineArrivalUnconfigured bytes).scanTimer = s.scanTimer ∧
    (s.lineArrivalUnconfigured bytes).radios = s.radios ∧
    (s.lineArrivalUnconfigured bytes).filter = s.filter ∧
    (s.lineArrivalUnconfigured bytes).notices = s.notices ∧
    (s.lineArrivalUnconfigured bytes).alerts = s.alerts ∧
    (s.lineArrivalUnconfigured bytes).response = s.response ∧
    (s.lineArrivalUnconfigured bytes).restartArmed = s.restartArmed := by
  unfold State.lineArrivalUnconfigured
  (repeat' split) <;> simp

@[simp] theorem State.lineArrivalUnconfigured_reads (s : State) (bytes : List Byte) :
    (s.lineArrivalUnconfigured bytes).op = s.op ∧ (s.lineArrivalUnconfigured bytes).cfg = s.cfg ∧
    (s.lineArrivalUnconfigured bytes).active = s.active ∧
    (∀ j, (s.lineArrivalUnconfigured bytes).client j = s.client j) ∧
    (∀ k, (s.lineArrivalUnconfigured bytes).seat k = s.seat k) ∧
    (∀ l, (s.lineArrivalUnconfigured bytes).radio l = s.radio l) ∧
    (∀ z, (s.lineArrivalUnconfigured bytes).alert z = s.alert z) := by
  simp [State.op, State.cfg, State.active, State.client, State.seat, State.radio, State.alert]

@[simp] theorem State.lineFrame_keeps (s : State) (bytes : List Byte) :
    (s.lineFrame bytes).pending = s.pending ∧ (s.lineFrame bytes).raised = s.raised ∧
    (s.lineFrame bytes).now = s.now ∧ (s.lineFrame bytes).runNow = s.runNow ∧
    (s.lineFrame bytes).draws = s.draws ∧ (s.lineFrame bytes).ctl = s.ctl ∧
    (s.lineFrame bytes).scanTimer = s.scanTimer ∧ (s.lineFrame bytes).filter = s.filter ∧
    (s.lineFrame bytes).response = s.response ∧ (s.lineFrame bytes).restartArmed = s.restartArmed := by
  unfold State.lineFrame
  (repeat' split) <;> simp

@[simp] theorem State.lineFrame_reads (s : State) (bytes : List Byte) :
    (s.lineFrame bytes).op = s.op ∧ (s.lineFrame bytes).cfg = s.cfg ∧
    (s.lineFrame bytes).active = s.active := by
  simp [State.op, State.cfg, State.active]

/-! ## Hold -/

@[simp] theorem State.schedHold_keeps (s : State) :
    (s.schedHold).pending = s.pending ∧ (s.schedHold).raised = s.raised ∧ (s.schedHold).now = s.now ∧
    (s.schedHold).runNow = s.runNow ∧ (s.schedHold).draws = s.draws ∧ (s.schedHold).ctl = s.ctl ∧
    (s.schedHold).line = s.line ∧ (s.schedHold).tally = s.tally ∧ (s.schedHold).clients = s.clients ∧
    (s.schedHold).claimSeq = s.claimSeq ∧ (s.schedHold).mem = s.mem ∧ (s.schedHold).seats = s.seats ∧
    (s.schedHold).scanTimer = s.scanTimer ∧ (s.schedHold).radios = s.radios ∧
    (s.schedHold).filter = s.filter ∧ (s.schedHold).notices = s.notices ∧ (s.schedHold).alerts = s.alerts ∧
    (s.schedHold).response = s.response ∧ (s.schedHold).restartArmed = s.restartArmed := by
  unfold State.schedHold
  (repeat' split) <;> simp

@[simp] theorem State.schedHold_reads (s : State) :
    (s.schedHold).op = s.op ∧ (s.schedHold).cfg = s.cfg ∧ (s.schedHold).active = s.active ∧
    (∀ j, (s.schedHold).client j = s.client j) ∧ (∀ k, (s.schedHold).seat k = s.seat k) ∧
    (∀ l, (s.schedHold).radio l = s.radio l) ∧ (∀ z, (s.schedHold).alert z = s.alert z) := by
  simp [State.op, State.cfg, State.active, State.client, State.seat, State.radio, State.alert]

@[simp] theorem State.flushEntry_keeps (s : State) (i : Fin 256) :
    (s.flushEntry i).pending = s.pending ∧ (s.flushEntry i).raised = s.raised ∧
    (s.flushEntry i).now = s.now ∧ (s.flushEntry i).runNow = s.runNow ∧ (s.flushEntry i).draws = s.draws ∧
    (s.flushEntry i).ctl = s.ctl ∧ (s.flushEntry i).line = s.line ∧ (s.flushEntry i).tally = s.tally ∧
    (s.flushEntry i).claimSeq = s.claimSeq ∧ (s.flushEntry i).sched = s.sched ∧
    (s.flushEntry i).scanTimer = s.scanTimer ∧ (s.flushEntry i).radios = s.radios ∧
    (s.flushEntry i).filter = s.filter ∧ (s.flushEntry i).response = s.response ∧
    (s.flushEntry i).restartArmed = s.restartArmed := by
  unfold State.flushEntry
  (repeat' split) <;> simp

@[simp] theorem State.flushEntry_reads (s : State) (i : Fin 256) :
    (s.flushEntry i).op = s.op ∧ (s.flushEntry i).cfg = s.cfg ∧ (s.flushEntry i).active = s.active ∧
    (∀ l, (s.flushEntry i).radio l = s.radio l) := by
  simp [State.op, State.cfg, State.active, State.radio]

@[simp] theorem State.longHoldFlush_keeps (s : State) :
    (s.longHoldFlush).pending = s.pending ∧ (s.longHoldFlush).raised = s.raised ∧
    (s.longHoldFlush).now = s.now ∧ (s.longHoldFlush).runNow = s.runNow ∧
    (s.longHoldFlush).draws = s.draws ∧ (s.longHoldFlush).ctl = s.ctl ∧ (s.longHoldFlush).line = s.line ∧
    (s.longHoldFlush).tally = s.tally ∧ (s.longHoldFlush).claimSeq = s.claimSeq ∧
    (s.longHoldFlush).sched = s.sched ∧ (s.longHoldFlush).scanTimer = s.scanTimer ∧
    (s.longHoldFlush).radios = s.radios ∧ (s.longHoldFlush).filter = s.filter ∧
    (s.longHoldFlush).response = s.response ∧ (s.longHoldFlush).restartArmed = s.restartArmed := by
  unfold State.longHoldFlush
  (repeat' apply And.intro) <;> exact State.foldl_keeps _ _ (by intros; simp) _ _

@[simp] theorem State.longHoldFlush_reads (s : State) :
    (s.longHoldFlush).op = s.op ∧ (s.longHoldFlush).cfg = s.cfg ∧ (s.longHoldFlush).active = s.active ∧
    (∀ l, (s.longHoldFlush).radio l = s.radio l) := by
  simp [State.op, State.cfg, State.active, State.radio]

/-! ## Management -/

@[simp] theorem State.evictEntry_keeps (s : State) (i : Fin 256) :
    (s.evictEntry i).pending = s.pending ∧ (s.evictEntry i).raised = s.raised ∧
    (s.evictEntry i).now = s.now ∧ (s.evictEntry i).runNow = s.runNow ∧ (s.evictEntry i).draws = s.draws ∧
    (s.evictEntry i).ctl = s.ctl ∧ (s.evictEntry i).line = s.line ∧ (s.evictEntry i).tally = s.tally ∧
    (s.evictEntry i).claimSeq = s.claimSeq ∧ (s.evictEntry i).sched = s.sched ∧
    (s.evictEntry i).scanTimer = s.scanTimer ∧ (s.evictEntry i).filter = s.filter ∧
    (s.evictEntry i).response = s.response ∧ (s.evictEntry i).restartArmed = s.restartArmed := by
  unfold State.evictEntry
  dsimp only
  (repeat' split) <;> simp

@[simp] theorem State.evictEntry_reads (s : State) (i : Fin 256) :
    (s.evictEntry i).op = s.op ∧ (s.evictEntry i).cfg = s.cfg ∧ (s.evictEntry i).active = s.active := by
  simp [State.op, State.cfg, State.active]

@[simp] theorem State.promoteEntry_keeps (s : State) (i : Fin 256) (k : PClass) :
    (s.promoteEntry i k).pending = s.pending ∧ (s.promoteEntry i k).raised = s.raised ∧
    (s.promoteEntry i k).now = s.now ∧ (s.promoteEntry i k).runNow = s.runNow ∧
    (s.promoteEntry i k).draws = s.draws ∧ (s.promoteEntry i k).ctl = s.ctl ∧
    (s.promoteEntry i k).tally = s.tally ∧ (s.promoteEntry i k).claimSeq = s.claimSeq ∧
    (s.promoteEntry i k).scanTimer = s.scanTimer ∧ (s.promoteEntry i k).radios = s.radios ∧
    (s.promoteEntry i k).filter = s.filter ∧ (s.promoteEntry i k).response = s.response ∧
    (s.promoteEntry i k).restartArmed = s.restartArmed := by
  unfold State.promoteEntry
  (repeat' split) <;> simp

@[simp] theorem State.promoteEntry_reads (s : State) (i : Fin 256) (k : PClass) :
    (s.promoteEntry i k).op = s.op ∧ (s.promoteEntry i k).cfg = s.cfg ∧
    (s.promoteEntry i k).active = s.active ∧ (∀ l, (s.promoteEntry i k).radio l = s.radio l) := by
  simp [State.op, State.cfg, State.active, State.radio]

end Sys2Proof.Machine
end

