-- ==== Sys2Proof/Laws/Effects.lean ====
section
/-!
SUPPORT. What each shared operation does: one lemma per operation, which a proof cites in place of
unfolding it. What the operations leave as it was is in Laws/Ops.lean.
-/

namespace Sys2Proof.Machine

/-! ## Counters and notices -/

/-- A count holds at 4294967295 (R172). -/
theorem satAdd_toNat (v : BitVec 32) (n : Nat) : (satAdd v n).toNat = min (v.toNat + n) 4294967295 := by
  simp only [satAdd, BitVec.toNat_ofNat]
  omega

/-- Counting nothing changes nothing. -/
@[simp] theorem satAdd_zero (v : BitVec 32) : satAdd v 0 = v := by
  apply BitVec.eq_of_toNat_eq
  rw [satAdd_toNat]
  have := v.isLt
  omega

/-- The notice queue after a posting (R170). -/
theorem State.postNotice_notices (s : State) (n : Notice) :
    (s.postNotice n).notices =
      if s.notices.length < Config.noticeCap then s.notices ++ [n] else s.notices := by
  unfold State.postNotice
  (repeat' split) <;> simp_all

/-- The counters after a posting: NOTICE_DROPPED alone rises, and only when the queue is full (R170). -/
theorem State.postNotice_counters (s : State) (n : Notice) :
    (s.postNotice n).counters =
      if s.notices.length < Config.noticeCap then s.counters
      else (s.count Ctr.NOTICE_DROPPED).counters := by
  unfold State.postNotice
  (repeat' split) <;> simp_all

/-- The notice queue never passes its capacity (R170). -/
theorem State.postNotice_length (s : State) (n : Notice) (h : s.notices.length ≤ Config.noticeCap) :
    (s.postNotice n).notices.length ≤ Config.noticeCap := by
  rw [State.postNotice_notices]
  split
  · rw [List.length_append, List.length_singleton]
    omega
  · exact h

/-! ## Time -/

theorem State.onExpiry_none (s : State) (c : Instr) (f : State → State) :
    s.onExpiry c none f = s.consume c := rfl

/-- An expiry that was overtaken does not happen (R25, R142). -/
theorem State.onExpiry_overtaken (s : State) (c : Instr) (d : Nat) (f : State → State)
    (h : c ∈ s.raised ∧ s.now < d) : s.onExpiry c (some d) f = s.consume c := by
  have e : s.overtaken c (some d) = true := by simp [State.overtaken, State.isDue, h.1, h.2]
  simp [State.onExpiry, e]

/-- An expiry that was not overtaken finds the clock at its time. -/
theorem State.onExpiry_some (s : State) (c : Instr) (d : Nat) (f : State → State)
    (h : c ∈ s.raised → d ≤ s.now) :
    s.onExpiry c (some d) f = f ((s.consume c).advanceTo d) := by
  have e : s.overtaken c (some d) = false := by
    by_cases k : c ∈ s.raised <;> simp [State.overtaken, State.isDue, k, h]
  simp [State.onExpiry, e]

/-- What an expiry command can do: nothing but no longer wait, or its effect at its time. -/
theorem State.onExpiry_cases (s : State) (c : Instr) (t : Timer) (f : State → State) :
    ((t = none ∨ ∃ d, t = some d ∧ c ∈ s.raised ∧ s.now < d) ∧ s.onExpiry c t f = s.consume c) ∨
    (∃ d, t = some d ∧ (c ∈ s.raised → d ≤ s.now) ∧
      s.onExpiry c t f = f ((s.consume c).advanceTo d)) := by
  cases t with
  | none => exact .inl ⟨.inl rfl, rfl⟩
  | some d =>
    by_cases h : c ∈ s.raised ∧ s.now < d
    · exact .inl ⟨.inr ⟨d, rfl, h⟩, s.onExpiry_overtaken c d f h⟩
    · have k : c ∈ s.raised → d ≤ s.now := fun m => Nat.le_of_not_lt (fun l => h ⟨m, l⟩)
      exact .inr ⟨d, rfl, k, s.onExpiry_some c d f k⟩

/-- An expiry taken at or after its time finds the clock where it stood. -/
theorem State.advanceTo_of_le (s : State) (d : Nat) (h : d ≤ s.now) : s.advanceTo d = s := by
  have e : d - s.now = 0 := by omega
  simp [State.advanceTo, State.advance, e]

/-! ## Packet memory -/

/-- A request of the UPLINK pool (R93): the blocks from the free list, or a refusal that is counted. -/
theorem State.allocUplink_cases (s : State) (len : Nat) :
    (blocksFor len ≤ s.mem.uplinkFree.length ∧
      s.allocUplink len =
        ({ s with mem := { s.mem with uplinkFree := s.mem.uplinkFree.drop (blocksFor len) } },
          some (s.mem.uplinkFree.take (blocksFor len)))) ∨
    (s.mem.uplinkFree.length < blocksFor len ∧
      s.allocUplink len = (s.count Ctr.POOL_UPLINK_SHORT, none)) := by
  unfold State.allocUplink
  split
  · exact .inl ⟨‹_›, rfl⟩
  · exact .inr ⟨by omega, rfl⟩

/-- A request of the DOWNLINK pool (R93). -/
theorem State.allocDownlink_cases (s : State) (len : Nat) :
    (blocksFor len ≤ s.mem.downlinkFree.length ∧
      s.allocDownlink len =
        ({ s with mem := { s.mem with downlinkFree := s.mem.downlinkFree.drop (blocksFor len) } },
          some (s.mem.downlinkFree.take (blocksFor len)))) ∨
    (s.mem.downlinkFree.length < blocksFor len ∧
      s.allocDownlink len = (s.count Ctr.POOL_DOWNLINK_SHORT, none)) := by
  unfold State.allocDownlink
  split
  · exact .inl ⟨‹_›, rfl⟩
  · exact .inr ⟨by omega, rfl⟩

/-- The fall of a group frame's reference count (R98). -/
theorem State.dropGroupRef_cases (s : State) (f : Frame) :
    (s.mem.groups.find? (·.frame == f) = none ∧ s.dropGroupRef f = s) ∨
    (∃ g, s.mem.groups.find? (·.frame == f) = some g ∧ g.refs ≤ 1 ∧
      s.dropGroupRef f = { s with mem := { s.mem with
        groups := s.mem.groups.erase g, downlinkFree := f.blocks ++ s.mem.downlinkFree } }) ∨
    (∃ g, s.mem.groups.find? (·.frame == f) = some g ∧ 1 < g.refs ∧
      s.dropGroupRef f = { s with mem := { s.mem with
        groups := s.mem.groups.replace g { g with refs := g.refs - 1 } } }) := by
  unfold State.dropGroupRef
  split
  · exact .inl ⟨‹_›, rfl⟩
  · split
    · exact .inr (.inl ⟨_, ‹_›, ‹_›, rfl⟩)
    · exact .inr (.inr ⟨_, ‹_›, by omega, rfl⟩)

@[simp] theorem State.endPositions_nil (s : State) (c : Counter) : s.endPositions [] c = s := rfl

theorem State.endPositions_cons (s : State) (pos : EgressPos) (q : List EgressPos) (c : Counter) :
    s.endPositions (pos :: q) c = ((s.endPosition pos).count c).endPositions q c := rfl

/-! ## The transmit sides -/

/-- A port's transmit side touches no other port. -/
theorem State.seatServe_other (s : State) (p q : Fin 32) (l : List EgressPos) (h : q ≠ p) :
    (State.seatServe p l s).seat q = s.seat q := by
  induction l generalizing s with
  | nil => simp [State.seatServe, State.updSeat_seat, h]
  | cons pos rest ih =>
    unfold State.seatServe
    split
    · simp [ih]
    · simp [State.updSeat_seat, h]

theorem State.seatLook_other (s : State) (p q : Fin 32) (h : q ≠ p) :
    (s.seatLook p).seat q = s.seat q := by
  unfold State.seatLook
  (repeat' split) <;> simp [State.updSeat_seat, State.seatServe_other, h]

/-- The pause judgement of a port touches no other port. -/
theorem State.judge_other (s : State) (p q : Fin 32) (h : q ≠ p) : (s.judge p).seat q = s.seat q := by
  unfold State.judge
  (repeat' split) <;> simp [State.seatLook_other, State.updSeat_seat, h]

/-- A port that is not UP, not IDLE or without link starts nothing (R133). -/
theorem State.seatLook_of_not (s : State) (p : Fin 32)
    (h : ¬((s.seat p).state = .up ∧ (s.seat p).tx = .idle ∧ (s.seat p).link = true)) :
    s.seatLook p = s := by
  unfold State.seatLook
  rw [if_neg h]

/-- The pause judgement of a port that is not UP changes nothing (R127). -/
theorem State.judge_of_not_up (s : State) (p : Fin 32) (h : (s.seat p).state ≠ .up) :
    s.judge p = s := by
  unfold State.judge
  rw [if_neg h]

/-- A link's transmit side touches no other link. -/
theorem State.radioServe_other (s : State) (r k : Fin 6) (l : List EgressPos) (h : k ≠ r) :
    (State.radioServe r l s).radio k = s.radio k := by
  induction l generalizing s with
  | nil => simp [State.radioServe, State.updRadio_radio, h]
  | cons pos rest ih =>
    unfold State.radioServe
    (repeat' split) <;> simp [ih, State.updRadio_radio, h]

theorem State.radioLook_other (s : State) (r k : Fin 6) (h : k ≠ r) :
    (s.radioLook r).radio k = s.radio k := by
  unfold State.radioLook
  (repeat' split) <;> simp [State.updRadio_radio, State.radioServe_other, h]

/-- A link that is not UP or not IDLE starts nothing (R148). -/
theorem State.radioLook_of_not (s : State) (r : Fin 6)
    (h : ¬((s.radio r).state = .up ∧ (s.radio r).tx = .idle)) : s.radioLook r = s := by
  unfold State.radioLook
  rw [if_neg h]

/-! ## The client table -/

/-- The freeing of an uplink queue, at every entry (R51). -/
theorem State.freeQueue_client (s : State) (i j : Fin 256) :
    (s.freeQueue i).client j = if j = i then { s.client i with queue := [] } else s.client j := by
  simp only [State.freeQueue, State.updClient_client]
  split <;> simp_all

/-- The blocks of a freed queue return to the UPLINK pool (R51, R95). -/
theorem State.freeQueue_mem (s : State) (i : Fin 256) :
    (s.freeQueue i).mem = { s.mem with
      uplinkFree := ((s.client i).queue.map (·.frame.blocks)).flatten ++ s.mem.uplinkFree } := rfl

/-- The freeing of an entry, at every entry (R51, R52). -/
theorem State.freeEntry_client (s : State) (i j : Fin 256) :
    (s.freeEntry i).client j =
      if j = i then Client.freed { s.client i with queue := [] } else s.client j := by
  unfold State.freeEntry
  dsimp only
  split <;> by_cases h : j = i <;> simp [State.updClient_client, State.freeQueue_client, h]

theorem State.freeWithNotice_client (s : State) (i j : Fin 256) (r : LeftReason) (c : Counter) :
    (s.freeWithNotice i r c).client j =
      if j = i then Client.freed { s.client i with queue := [] } else s.client j := by
  simp [State.freeWithNotice, State.freeEntry_client]

/-- The end of a drain: an entry LEAVING with an empty queue is freed; any other entry is as it was
(R63). -/
theorem State.endDrainIfEmpty_client (s : State) (i j : Fin 256) :
    (s.endDrainIfEmpty i).client j =
      if (s.client i).state = .leaving ∧ (s.client i).queue = [] ∧ j = i then
        Client.freed { s.client i with queue := [] }
      else s.client j := by
  unfold State.endDrainIfEmpty
  split
  · rename_i h
    by_cases e : j = i <;> simp [State.freeWithNotice_client, e, h]
  · rename_i h
    rw [if_neg (fun k => h ⟨k.1, k.2.1⟩)]

/-- The loss of an entry's attachment touches no other entry. -/
theorem State.loseEntry_other (s : State) (i j : Fin 256) (h : j ≠ i) :
    (s.loseEntry i).client j = s.client j := by
  simp [State.loseEntry, State.endDrainIfEmpty_client, State.updClient_client, h]

/-! ## The scheduler -/

/-- Without credit no frame is handed over; the request is counted if an entry is eligible (R111). -/
theorem State.selection_of_no_credit (s : State) (h : s.sched.credit ≤ 0) :
    s.selection =
      (if s.clients.toList.any s.eligible then s.count Ctr.SCHED_NO_CREDIT else s, none) := by
  simp [State.selection, h]

/-- What a selection can do (R111): nothing but the count of a request without credit, or the handover of
the head frame of the entry picked. -/
theorem State.selection_cases (s : State) :
    (s.selection.2 = none ∧ (s.selection.1 = s ∨ s.selection.1 = s.count Ctr.SCHED_NO_CREDIT)) ∨
    (∃ i ph rec rest, 0 < s.sched.credit ∧ s.pick = some (i, ph) ∧ (s.client i).queue = rec :: rest ∧
      s.selection = (s.handover i ph rec, some rec)) := by
  by_cases hc : s.sched.credit ≤ 0
  · rw [State.selection_of_no_credit s hc]
    refine .inl ⟨rfl, ?_⟩
    dsimp only
    split <;> simp
  · unfold State.selection
    rw [if_neg hc]
    cases hp : s.pick with
    | none => simp
    | some x =>
      obtain ⟨i, ph⟩ := x
      cases hq : (s.client i).queue with
      | nil => simp [hq]
      | cons rec rest => exact .inr ⟨i, ph, rec, rest, by omega, rfl, hq, by simp [hq]⟩

/-- A handover touches no entry but the one served. -/
theorem State.handover_other (s : State) (i j : Fin 256) (ph : Phase) (rec : UplinkRec) (h : j ≠ i) :
    (s.handover i ph rec).client j = s.client j := by
  unfold State.handover
  dsimp only
  cases (s.client i).attach <;>
    simp [State.judgeAt, State.endDrainIfEmpty_client, State.updClient_client, h]

/-! ## The line interface -/

/-- The control queue after a CLAIM or RELEASE is placed (R18). -/
theorem State.placeControl_queue (s : State) (r : CtrlRec) :
    (s.placeControl r).line.queue =
      if s.line.queue.length < Config.controlQueueCap then s.line.queue ++ [r] else s.line.queue := by
  unfold State.placeControl
  split <;> simp

/-- What a drawn backoff does to the queue (R14): the expiry of a zero draw follows at once, and of any other
draw nothing is queued. -/
theorem State.drawBackoff_eq (s : State) (x : Slot) (n : Nat) :
    s.drawBackoff x n =
      if backoffSlots s.draws n = 0 then (s.startBackoff x n 0).expiresAtOnce .backoffTimerExpiry
      else s.startBackoff x n (backoffSlots s.draws n) := by
  unfold State.drawBackoff
  dsimp only
  split <;> simp_all

/-- A TALLY takes the place of one waiting (R19). -/
theorem replaceTally_length (t : CtrlRec) (q : List CtrlRec) : (replaceTally t q).length = q.length := by
  induction q with
  | nil => rfl
  | cons r rest ih =>
    unfold replaceTally
    split <;> simp [ih]

/-- The control queue never passes its capacity (R17 to R19). -/
theorem State.placeTally_length (s : State) (t : CtrlRec)
    (h : s.line.queue.length ≤ Config.controlQueueCap) :
    (s.placeTally t).line.queue.length ≤ Config.controlQueueCap := by
  unfold State.placeTally
  (repeat' split) <;> simp [replaceTally_length] <;> omega

theorem State.placeControl_length (s : State) (r : CtrlRec)
    (h : s.line.queue.length ≤ Config.controlQueueCap) :
    (s.placeControl r).line.queue.length ≤ Config.controlQueueCap := by
  rw [State.placeControl_queue]
  split <;> (try simp only [List.length_append, List.length_cons, List.length_nil]) <;> omega

/-- Without a send opportunity the transmitter takes nothing (R10). -/
theorem State.sendOpportunity_of_not (s : State) (h : s.opportunity = false) :
    s.sendOpportunity = s := by
  simp [State.sendOpportunity, h]

/-- What a look for a frame can do (R10): nothing; take the oldest control record; or make a selection
request and take the frame handed over, if any. -/
theorem State.sendOpportunity_cases (s : State) :
    (s.opportunity = false ∧ s.sendOpportunity = s) ∨
    (∃ r rest, s.opportunity = true ∧ s.line.queue = r :: rest ∧
      s.sendOpportunity = s.updLine (fun l => { l with queue := rest }.take (.control r) s.now)) ∨
    (s.opportunity = true ∧ s.line.queue = [] ∧ s.selection.2 = none ∧
      s.sendOpportunity = s.selection.1) ∨
    (∃ rec, s.opportunity = true ∧ s.line.queue = [] ∧ s.selection.2 = some rec ∧
      s.sendOpportunity = s.selection.1.updLine (·.take (.passenger rec) s.now)) := by
  by_cases h : s.opportunity = true
  · cases hq : s.line.queue with
    | cons r rest => exact .inr (.inl ⟨r, rest, h, rfl, by simp [State.sendOpportunity, h, hq]⟩)
    | nil =>
      have hn := (s.selection_keeps).2.2.1
      unfold State.sendOpportunity
      rw [if_pos h, hq]
      generalize s.selection = x at hn ⊢
      obtain ⟨s', _ | rec⟩ := x
      · simp [h]
      · simp only at hn
        simp [h, hn]
  · have h' : s.opportunity = false := by simpa using h
    exact .inl ⟨h', s.sendOpportunity_of_not h'⟩

/-! ## The peer table -/

/-- The entries of the table after an entry is put in (R24). -/
theorem insertPeer_mem (p q : Peer) (l : List Peer) : q ∈ insertPeer p l ↔ q = p ∨ q ∈ l := by
  induction l with
  | nil => simp [insertPeer]
  | cons a l ih =>
    unfold insertPeer
    split
    · simp
    · simp only [List.mem_cons, ih]
      exact or_left_comm

theorem insertPeer_length (p : Peer) (l : List Peer) : (insertPeer p l).length = l.length + 1 := by
  induction l with
  | nil => rfl
  | cons a l ih =>
    unfold insertPeer
    split <;> simp [ih]

/-! ## Resets and the hand-over -/

/-- What every kind of reset keeps (R162): the commands that wait, the counters, the held image, the
settings, the cause record and the inputs of start and hold control. -/
theorem State.clearBlocks_keeps (s : State) :
    s.clearBlocks.pending = s.pending ∧ s.clearBlocks.raised = s.raised ∧ s.clearBlocks.draws = s.draws ∧
    s.clearBlocks.counters = s.counters ∧ s.clearBlocks.ctl.op = s.ctl.op ∧
    s.clearBlocks.ctl.image = s.ctl.image ∧ s.clearBlocks.ctl.settings = s.ctl.settings ∧
    s.clearBlocks.ctl.cause = s.ctl.cause ∧ s.clearBlocks.ctl.holdInput = s.ctl.holdInput ∧
    s.clearBlocks.line.carrier = s.line.carrier :=
  ⟨rfl, rfl, rfl, rfl, rfl, rfl, rfl, rfl, rfl, rfl⟩

/-- A change into RUNNING: the hand-over and a look for a frame, and with the HOLD input asserted HOLD_ENTRY
at the front of the queue (R161). -/
theorem State.enterRunning_eq (s : State) :
    s.enterRunning = { s.handOver.sendOpportunity with
      pending := if s.ctl.holdInput = true then .holdEntry :: s.pending else s.pending } := by
  have k := s.handOver.sendOpportunity_keeps
  have c : s.handOver.sendOpportunity.ctl.holdInput = s.ctl.holdInput := by simp [State.handOver]
  have q : s.handOver.sendOpportunity.pending = s.pending := by simp [State.handOver]
  unfold State.enterRunning
  dsimp only
  rw [c, ← q]
  split <;> rfl

/-- What the hand-over leaves as it was (R161). -/
theorem State.handOver_keeps (s : State) :
    s.handOver.pending = s.pending ∧ s.handOver.raised = s.raised ∧ s.handOver.now = s.now ∧ s.handOver.line = s.line ∧
    s.handOver.clients = s.clients ∧ s.handOver.claimSeq = s.claimSeq ∧
    s.handOver.counters = s.counters ∧ s.handOver.notices = s.notices ∧
    s.handOver.response = s.response ∧ s.handOver.restartArmed = s.restartArmed :=
  ⟨rfl, rfl, rfl, rfl, rfl, rfl, rfl, rfl, rfl, rfl⟩

end Sys2Proof.Machine
end

