-- ==== Sys2Proof/Tests/Slice0.lean ====
section
/-!
SUPPORT. Tests: an ill-formed command for each check of WellFormed; values that the manual itself states
(its tables, worked cases and worked sequences); one or two steps on small states; and for each statement
with hypotheses a theorem that a concrete state meets them.
-/

namespace Sys2Proof.Tests

set_option Elab.async false

open Sys2Proof Sys2Proof.Machine

/-! ## WellFormed -/

theorem test_wellFormed_line_bytes : WellFormed (.lineFrameArrival []) = false := by decide
theorem test_wellFormed_seat_bytes : WellFormed (.seatFrameArrival 0 []) = false := by decide
theorem test_wellFormed_radio_bytes : WellFormed (.radioMessageArrival 0 []) = false := by decide
theorem test_wellFormed_peer_station :
    WellFormed (.peerExpiry 0) = false ∧ WellFormed (.peerExpiry 4095) = false ∧
    WellFormed (.peerExpiry 4094) = true := by decide
theorem test_wellFormed_unknown_code :
    WellFormed (.unknownCommand 0x11) = false ∧ WellFormed (.unknownCommand 0x12) = true ∧
    WellFormed (.unknownCommand 0) = true := by decide
theorem test_wellFormed_others : WellFormed .powerUp = true ∧ WellFormed (.readClient 999) = true := by
  decide

/-- No row of the table has bits, so no word spells a command. -/
theorem test_table_words : decodeTableWord 16 1 = none ∧ State.reset.withFetchWord 16 1 = State.reset :=
  ⟨rfl, rfl⟩

/-! ## Values the manual states -/

/-- The check of R1 is the CRC whose published check value over the nine digits is FC 89 19 18
(CRC-32/BZIP2), and the FCS of R124 the one of Ethernet, CB F4 39 26 sent lowest byte first. -/
theorem test_crcs_of_nine_digits :
    lineCheck [0x31, 0x32, 0x33, 0x34, 0x35, 0x36, 0x37, 0x38, 0x39] = [0xFC, 0x89, 0x19, 0x18] ∧
    frameFcs [0x31, 0x32, 0x33, 0x34, 0x35, 0x36, 0x37, 0x38, 0x39] = [0x26, 0x39, 0xF4, 0xCB] := by
  decide +kernel

/-- The bucket of 02-1A-3C-00-45-7F is 28, so its ways are entries 112 to 115 (4.7). -/
theorem test_bucket : waysOf 0x021A3C00457F = [112, 113, 114, 115] := by decide +kernel

/-- The flags of R155's examples. -/
theorem test_group_flags :
    groupFlag 0xFFFFFFFFFFFF = 0 ∧ groupFlag 0x333300000001 = 1 ∧ groupFlag 0x01005E0000FB = 164 ∧
    groupFlag 0x01005E00005F = 0 := by decide +kernel

/-- Blocks of 128 bytes at the ends of their ranges (R93). -/
theorem test_blocks : blocksFor 64 = 1 ∧ blocksFor 128 = 1 ∧ blocksFor 129 = 2 ∧ blocksFor 1522 = 12 := by
  decide

/-- The worked case of 2.6: what S1 computes of each station. -/
theorem test_allotment_four_stations :
    let set : List Share := [⟨5000, 120⟩, ⟨150, 40⟩, ⟨16000, 300⟩, ⟨3000, 60⟩]
    set.map (fun x => x.allotment 20000 200 set) = [5000, 150, 12237, 2612] := by decide +kernel

/-- The worked case of 2.7: a station without weight beside one in Hold. -/
theorem test_allotment_weightless :
    let set : List Share := [⟨1000, 0⟩, ⟨3500, 40⟩, ⟨40, 8⟩]
    set.map (fun x => x.allotment 4096 64 set) = [556, 3500, 40] := by decide +kernel

/-- The rows of R26's table: the sequence values skipped. -/
theorem test_lost_tallies :
    ((41 : BitVec 8) - 40 - 1).toNat = 0 ∧ ((45 : BitVec 8) - 40 - 1).toNat = 4 ∧
    ((3 : BitVec 8) - 250 - 1).toNat = 8 ∧ ((0 : BitVec 8) - 117 - 1).toNat = 138 ∧
    addLost 65534 8 = 65535 := by decide

/-- The first row of R144's table, and the serial comparison at the wrap (8.7, rows 3 and 6). -/
theorem test_radio_credit :
    (({ buffer := 64, sent := 65530, taken := 65500 } : RadioLink).outstanding,
      ({ buffer := 64, sent := 65530, taken := 65500 } : RadioLink).credit) = (30, 34) ∧
    ({ buffer := 64, sent := 34, taken := 10 } : RadioLink).credit = 40 ∧
    ahead16 10 34 = false ∧ ahead16 50 37 = true := by decide

/-- The fixed periods, in ticks of 80 ns, are those the manual gives, and so are the pause quanta. -/
theorem test_fixed_periods :
    Config.gapTicks * 80 = 2000 ∧ Config.slotTicks * 80 = 10000 ∧ Config.stuckTicks * 80 = 50000000 ∧
    Config.startDelayTicks * 80 = 50000000 ∧ Config.drainTicks * 80 = 200000000 ∧
    Config.flapTicks * 80 = 10000000000 ∧ Config.scanTicks * 80 = 20000000 ∧
    Config.faultTicks * 80 = 1000000000 ∧ Config.quietTicks * 80 = 10000000000 ∧
    Config.refreshTicks * 80 = 200000000 ∧ Config.livenessTicks * 80 = 500000000 ∧
    Config.settleTicks * 80 = 1000000000 ∧ quantaTicks .mb100 65535 * 80 = 65535 * 5120 ∧
    quantaTicks .mb10 1 * 80 = 51200 := by decide

/-- The default image is not good: it names no own station; its check word makes the sum 0 (10.4). -/
theorem test_default_image :
    imageGood defaultImage = false ∧ (defaultImage.toList.map (·.toNat)).sum % 65536 = 0 := by
  decide +kernel

/-! ## Small states -/

/-- An image of station 17 with gateway 1 and the default's other values, its check word made for it. -/
def imageWords : List Word := (defaultWords.set 1 17).set 2 1

/-- The image of the tests. -/
def image : Image := ⟨(imageWords ++ [- imageWords.sum]).toArray, rfl⟩

/-- An image whose period field 5 lies below its range. -/
def clampedImage : Image :=
  ⟨((imageWords.set 3 5) ++ [- (imageWords.set 3 5).sum]).toArray, rfl⟩

/-- The part in an operating state with that image, at tick 1000000, with an idle line. -/
def part (op : OpState) : State :=
  { State.reset with
    now := 1000000, runNow := 500000
    ctl := { State.reset.ctl with op := op, image := image, settings := Settings.ofImage image }
    line := { line := .idle } }

/-- RUNNING, with the radio links and seat ports DOWN and ABSENT as the hand-over leaves them. -/
def running : State := (part .running).handOver

/-- Every entry of a fresh part is FREE and empty. -/
theorem part_client (op : OpState) (i : Fin 256) : (part op).client i = {} := by
  show (Vector.replicate 256 ({} : Client))[i] = {}
  simp

theorem running_client (i : Fin 256) : running.client i = {} := part_client .running i

/-- The test address, which falls in bucket 28 (4.7). -/
def tablet : Addr := 0x021A3C00457F

/-- The entry of the test address in the lowest way. -/
def withEntry (s : State) (c : Client) : State := s.updClient 112 (fun _ => c)

theorem withEntry_client (s : State) (c : Client) (j : Fin 256) (h : j ≠ 112) :
    (withEntry s c).client j = s.client j := State.updClient_client_ne s 112 j _ h

/-- Port 11 as given. -/
def withPort (s : State) (q : SeatPort) : State := s.updSeat 11 (fun _ => q)

/-- Radio 2 as given. -/
def withRadio (s : State) (l : RadioLink) : State := s.updRadio 2 (fun _ => l)

/-- A port in UP with link. -/
def upPort : SeatPort := { state := .up, link := true, faultWindow := some 9000000 }

/-- A radio in UP with signal and room for 64 messages. -/
def upRadio : RadioLink := { state := .up, signal := true, buffer := 64, liveness := some 9000000 }

/-- The tablet's entry in LOCAL on port 11 or on radio 2. -/
def localOn (a : Attachment) : Client :=
  { addr := tablet, state := .localHeld, tenancy := 7, attach := a, cls := .standard, claimNum := 41 }

/-- A full slot of an uplink record. -/
def passengerSlot (ph : TxPhase) (attempts : Nat) : Slot :=
  { phase := ph, seq := 0, attempts := attempts
    content := .passenger { frame := { blocks := [0], data := [] }, cls := .standard, owner := 112 } }

/-- A full slot of a CLAIM record. -/
def claimSlot (ph : TxPhase) (attempts : Nat) : Slot :=
  { phase := ph, seq := 0, attempts := attempts, content := .control (.claim tablet 46 .premium) }

/-- The state with a slot and a line state. -/
def withSlot (s : State) (x : Slot) (l : LineState) : State :=
  s.updLine (fun y => { y with slot := some x, line := l })

/-- The group address of R155's second row. -/
def group : Addr := 0x333300000001

/-- A seat frame of 64 bytes. -/
def seatFrame (dst src : Addr) : List Byte :=
  let front := addrBytes dst ++ addrBytes src ++ [0x08, 0x00] ++ List.replicate 46 0
  front ++ frameFcs front

/-- A line frame. -/
def lineFrame (kind dest origin : Nat) (seq : Byte) (body : List Byte) : List Byte :=
  let front := headerBytes { kind := kind, dest := dest, origin := origin, cls := 0, seq := seq
                             bodyLen := body.length } ++ body
  front ++ lineCheck front

/-- A CLAIM body and a RELEASE body of the tablet. -/
def claimBodyOf (n : Byte) : List Byte := addrBytes tablet ++ [n, 1]
def releaseBodyOf (n : Byte) : List Byte := addrBytes tablet ++ [n, 0, 0, 2]

/-- A TALLY body. -/
def tallyBodyOf : List Byte := [0, 10, 0, 8, 0, 5, 0, 10, 1, 0, 0, 3]

/-- What that body announces. -/
def tallyOf : TallyBody :=
  { d := 10, w := 8, a := 5, period := 10, hold := true, conflict := false, clients := 3 }

/-- The state a command answers. -/
def after (c : Instr) (s : State) : State :=
  match exec c s with
  | .next t => t
  | _ => s

/-! ## One or two steps, against the manual -/

/-- From State.reset a part comes to RUNNING by the release, the start delay and a load of a good image
(10.2), with the credit at F and the ports ABSENT. -/
theorem test_start_sequence :
    let s := after (.loadCompletion (some image))
      (after .startDelayExpiry (after .resetRelease State.reset))
    s.op = .running ∧ s.cfg.station = 17 ∧ s.ctl.cause.outcome = .good ∧ s.sched.credit = 128 ∧
    (s.seat 11).state = .absent ∧ s.mem.uplinkFree.length = 1280 := by decide +kernel

/-- A command waiting in the queue is taken by the next step. -/
theorem test_step_takes_command :
    step { running with pending := [.readStatus, .start] } =
      exec .readStatus { running with pending := [.start] } := rfl

/-- Row 1 of 4.7 at station 9, here station 17: a JOIN on network index 1 admits the tablet; a CLAIM with
the next claim number goes to the slot at once. -/
theorem test_join_admits :
    let s := after (.radioMessageArrival 2 (radioMessageBytes 3 (addrBytes tablet ++ [1, 0])))
      (withRadio { running with claimSeq := 60 } upRadio)
    (s.client 112).state = .probation ∧ (s.client 112).claimNum = 61 ∧ (s.client 112).tenancy = 1 ∧
    (s.line.slot.map (·.content)) = some (.control (.claim tablet 61 (running.cfg.netClasses[1]))) ∧
    s.notices = [.clientAdded 112 1 tablet (.radio 2)] := by decide +kernel

/-- Row 2 of 4.7: a CLAIM from station 9 takes the tablet from an entry in LOCAL. -/
theorem test_claim_gives_up :
    let s := after (.lineFrameArrival (lineFrame 3 4095 9 0 (claimBodyOf 61)))
      (withEntry running (localOn (.radio 2)))
    (s.client 112).state = .moved ∧ (s.client 112).timer = some (1000000 + 2 * 12500000) ∧
    (s.line.slot.map (·.content)) = some (.control (.release tablet 61 0 9)) := by decide +kernel

/-- Row 9 of 4.7: an entry in PROBATION counter-claims a lower station with the next number. -/
theorem test_counter_claim :
    let s := after (.lineFrameArrival (lineFrame 3 4095 9 0 (claimBodyOf 62)))
      (withEntry { running with claimSeq := 46 }
        { localOn (.seat 11) with state := .probation, claimNum := 46 })
    (s.client 112).state = .probation ∧ (s.client 112).claimNum = 47 := by decide +kernel

/-- Row 11 of 4.7: the matching RELEASE makes the entry LOCAL and adds its discard count. -/
theorem test_release_matches :
    let s := after (.lineFrameArrival (lineFrame 4 17 9 0 (releaseBodyOf 47)))
      (withEntry running { localOn (.seat 11) with state := .probation, claimNum := 47 })
    (s.client 112).state = .localHeld ∧ s.counters[Ctr.RELEASE_PEER_DISCARDS] = 2 := by decide +kernel

/-- The flap hold of 4.7's continuation: at count 3 a JOIN is kept and the tombstone lasts to the end of
the window. -/
theorem test_flap_hold :
    let s := after (.radioMessageArrival 2 (radioMessageBytes 3 (addrBytes tablet ++ [1, 0])))
      (withRadio (withEntry running { localOn (.radio 2) with
        state := .moved, timer := some 1000005, flapCount := 3, flapStart := some 1000000 }) upRadio)
    (s.client 112).timer = some (1000000 + 125000000) ∧ (s.client 112).pendingJoin = some (2, 1) ∧
    (s.client 112).state = .moved := by decide +kernel

/-- A frame of `b` blocks of the uplink. -/
def upFrame (i : Fin 256) (b : Nat) : UplinkRec :=
  { frame := { blocks := List.replicate b 0, data := [] }, cls := .standard, owner := i }

/-- The table of 6.6 before row 3: entries 5, 40 and 41 with what their queues then hold. -/
def cycleEntries : State :=
  ((running.updClient 5 (fun _ =>
      { state := .localHeld, cls := .crew, quota := 19, used := 24, charged := true })).updClient 40 (fun _ =>
      { state := .localHeld, cls := .premium, quota := 14, queue := [upFrame 40 10, upFrame 40 6] })).updClient
      41 (fun _ => { state := .localHeld, cls := .premium, quota := 14, queue := [upFrame 41 12] })
def cycleRow3 : State :=
  cycleEntries.updSched (fun d => { d.setPtr .quota .premium 40 with credit := 36 })

/-- Rows 3 and 4 of 6.6: the search begins after the pointer, and wraps. -/
theorem test_selection_rows :
    cycleRow3.pick = some (41, .quota) ∧
    cycleRow3.selection.1.sched.credit = 24 ∧ cycleRow3.selection.1.pick = some (40, .quota) := by
  decide +kernel

/-- Row 7 of 6.6: over its quota, entry 40 is served in spill, and the credit goes below 0. -/
theorem test_spill_row :
    let s := (running.updClient 40 (fun _ =>
      { state := .localHeld, cls := .premium, quota := 14, used := 16, queue := [upFrame 40 12] })).updSched
        (fun d => { d with credit := 5 })
    s.pick = some (40, .spill) ∧ s.selection.1.sched.credit = -7 ∧
    (s.selection.1.client 40).used = 16 := by decide +kernel

/-- The quotas of 6.2's worked case, per class, of Aeff 5000 and weight sum 120. -/
theorem test_quotas :
    [PClass.crew, .premium, .standard, .openNet].map (fun k =>
      (Client.newCycle running.cfg 5000 120 { state := .localHeld, cls := k, charged := true }).quota) =
      [333, 250, 166, 41] := by decide +kernel

set_option maxRecDepth 4096 in
/-- Row 1 of 7.9: a long frame takes the client over the pause level of 48; the port sends a pause. -/
theorem test_pause_row :
    let s := after (.seatFrameArrival 11 (seatFrame 0x020000000001 tablet))
      (withPort (withEntry (running.updLine (fun l => { l with line := .busy }))
        { localOn (.seat 11) with queue := [upFrame 112 47] }) upPort)
    (s.seat 11).pausing = true ∧ (s.seat 11).tx = .sendingPause 65535 ∧
    (s.seat 11).refreshTimer = some (1000000 + 2500000) ∧ (s.client 112).blocks = 48 := by decide +kernel

/-- Row 6 of 8.7: a STATUS ahead of S resyncs it. -/
theorem test_resync_row :
    let s := after (.radioMessageArrival 2 (radioMessageBytes 2 [13, 0, 0, 64, 0, 50]))
      (withRadio running { upRadio with sent := 37, taken := 10 })
    (s.radio 2).sent = 50 ∧ (s.radio 2).credit = 64 ∧ s.counters[Ctr.RADIO_RESYNC] = 1 := by
  decide +kernel

/-- READ ALERT of a source raised once; MASK SET of it makes ALERT_N high. -/
theorem test_read_alert :
    let s := running.raiseAlert Alert.PORT_QUIET
    s.alertN = false ∧ (after .readAlert s).response = [0, 8, 1] ∧
    (after (.maskSet 0x0100) s).alertN = true := by decide +kernel

/-- RESTART is answered OK and the reset after it returns to RUNNING with the flag set (R162). -/
theorem test_restart :
    let s := after .restartReset (after .restart running)
    s.op = .running ∧ s.ctl.cause.restart = true ∧ s.line.line = .gap := by decide +kernel

/-- With HOLD asserted the change into RUNNING ends in RUNNING, and Hold entry waits in front as an event of
its own, which takes the part to HOLD (R161). -/
theorem test_hold_at_start :
    let s := after (.loadCompletion (some image)) { after .holdEntry (part .loading) with pending := [.start] }
    s.op = .running ∧ (s.seat 11).state = .absent ∧ s.sched.credit = 128 ∧
    s.pending = [.holdEntry, .start] ∧ (after .holdEntry s).op = .hold ∧
    (after .holdEntry s).counters[Ctr.HOLD_ENTRIES] = 1 := by decide +kernel

/-- The expiry of a zero backoff is the next event, at the same tick and before the command that waits (R14). -/
theorem test_zero_backoff :
    let s := { withSlot running (claimSlot .sending 3) .gap with pending := [.collision] }
    let t := (s.startBackoff (claimSlot .sending 3) 4 0).expiresAtOnce .backoffTimerExpiry
    let u := after .backoffTimerExpiry { t with pending := [.collision] }
    t.pending = [.backoffTimerExpiry, .collision] ∧ u.line.slot = some (claimSlot .defer 4) ∧ u.now = s.now ∧
      u.raised = [] ∧ u.pending = [.collision] := by decide +kernel

/-- The codes of 11.1: READ PEER of position 3, bits 7 to 0 of word 0 ignored; a PROMOTE abandoned before its
last operand; code 12H, which the list does not have; and RESTART with the reset that ends it. -/
theorem test_transactions :
    transactionCommand [0x05FF, 3] = .readPeer 3 ∧
    transactionCommand [0x0800, 112, 7] = .transactionAbandoned ∧
    transactionCommand [0x1200] = .unknownCommand 0x12 ∧
    (running.transact [0x1100]).pending = [.restart, .restartReset] := by decide +kernel

/-! ## Witnesses: states that meet the statements' hypotheses, clause by clause -/

theorem witness_StepTakesTheFrontCommand :
    ({ running with pending := [.start, .powerUp] } : State).pending = .start :: [.powerUp] := rfl

theorem witness_IdleStepBringsTheDueExpiries : running.pending = [] := rfl

theorem witness_ResetsClearThePart :
    let full (p d n : Bool) : ResetCause := { power := p, dip := d, pin := n, restart := false, outcome := .none }
    ∀ c, c = Instr.powerUp ∨ c = .supplyDip ∨ c = .resetPin → ∃ cause,
      (c = .powerUp ∧ cause = full true false false ∨ c = .supplyDip ∧ cause = full false true false ∨
       c = .resetPin ∧ cause = full false false true) := by
  rintro full c (rfl | rfl | rfl)
  · exact ⟨_, .inl ⟨rfl, rfl⟩⟩
  · exact ⟨_, .inr (.inl ⟨rfl, rfl⟩)⟩
  · exact ⟨_, .inr (.inr ⟨rfl, rfl⟩)⟩

/-- An expiry that the sender gives, and one that the clock raised, at and before its time. -/
theorem witness_Timely (c : Instr) (d : Nat) :
    running.Timely c d ∧ State.Timely { running with raised := [.gapTimerExpiry] } .gapTimerExpiry 1000000 ∧
    ¬ State.Timely { running with raised := [.gapTimerExpiry] } .gapTimerExpiry 1000001 :=
  ⟨nofun, fun _ => by decide +kernel, fun h => absurd (h (by decide)) (by decide +kernel)⟩

theorem witness_RestartResetReturnsToRunning :
    running.restartArmed = false ∧ (after .restart running).restartArmed = true ∧
    (after .restart running).ctl.holdInput = false ∧
    (after .restart (after .holdEntry (part .hold))).restartArmed = true ∧
    (after .restart (after .holdEntry (part .hold))).ctl.holdInput = true := by decide +kernel

theorem witness_StartSequenceAndFailedImages :
    State.reset.op = .inReset ∧ State.reset.line.carrier = false ∧
    (after .carrierRise State.reset).op = .inReset ∧ (after .carrierRise State.reset).line.carrier = true ∧
    (after .resetRelease State.reset).op = .starting ∧
    (after .resetRelease State.reset).ctl.startDelay = some 625000 ∧
    (part .loading).op = .loading ∧ (part .unconfigured).op = .unconfigured := by decide +kernel

theorem witness_image_fails : ¬ ImagePasses defaultImage := by
  rintro ⟨-, -, h, -⟩
  exact absurd h.1 (by decide +kernel)

theorem witness_image_passes : ImagePasses image ∧ imageClamped image = false := by
  unfold ImagePasses
  decide +kernel

theorem witness_image_clamped : ImagePasses clampedImage ∧ imageClamped clampedImage = true := by
  unfold ImagePasses
  decide +kernel

theorem witness_GoodImageReachesRunning :
    (part .loading).op = .loading ∧ (part .unconfigured).op = .unconfigured ∧
    (part .unconfigured).ctl.image = image ∧
    (∀ op i, ((part op).client i).state = .free) ∧
    (part .unconfigured).clients = (part .loading).clients ∧ (part .loading).ctl.holdInput = false ∧
    (after .holdEntry (part .loading)).op = .loading ∧
    (after .holdEntry (part .loading)).ctl.holdInput = true :=
  ⟨rfl, rfl, rfl, fun op i => congrArg Client.state (part_client op i), rfl, rfl, rfl, rfl⟩

/-! ### Hold -/

theorem witness_HoldEntryStopsTheCarriage :
    (part .unconfigured).op ≠ .running ∧ running.op = .running ∧
    (withPort running upPort).op = .running ∧ ((withPort running upPort).seat 11).state = .up ∧
    (∃ x rec, (withSlot running (passengerSlot .backoff 1) .busy).line.slot = some x ∧
      x.content = .passenger rec ∧ x.phase ≠ .sending) ∧
    (withSlot running (passengerSlot .backoff 1) .busy).line.line ≠ .idle :=
  ⟨by decide +kernel, by decide +kernel, by decide +kernel, by decide +kernel,
    ⟨_, _, rfl, rfl, by decide⟩, by decide⟩

theorem witness_HoldEntry_slot_kept :
    ∀ x rec, (withSlot running (passengerSlot .sending 0) .busy).line.slot = some x →
      x.content = .passenger rec → x.phase = .sending := by
  intro x rec h _
  cases h
  rfl

theorem witness_HoldExitReturnsToRunning :
    (part .running).op ≠ .hold ∧ (part .hold).op = .hold ∧ (∀ p, ((part .hold).seat p).state = .held) ∧
    (∀ r, ((part .hold).radio r).state = .held) ∧ (part .hold).ctl.longMark = false ∧
    ((part .hold).updCtl (fun c => { c with longMark := true })).ctl.longMark = true := by decide +kernel

/-- A long Hold with one client held and `n` notices waiting: at 31 there is room for its notice, at 32 none. -/
def longClient (n : Nat) : State :=
  { withEntry ((part .hold).updCtl (fun c => { c with longMark := true })) (localOn (.seat 11)) with
    notices := List.replicate n (.peerJoined 9) }

theorem witness_HoldExit_long (n : Nat) :
    (longClient n).op = .hold ∧ (longClient n).ctl.longMark = true ∧
    ((longClient n).client 112).state = .localHeld ∧ (longClient n).notices.length = n ∧
    (∀ i, i ≠ 112 → ((longClient n).client i).state = .free) := by
  have h (i : Fin 256) : (longClient n).client i =
      (withEntry ((part .hold).updCtl (fun c => { c with longMark := true })) (localOn (.seat 11))).client i := rfl
  refine ⟨rfl, rfl, ?_, List.length_replicate, fun i hi => ?_⟩
  · rw [h]
    exact congrArg Client.state (State.updClient_client_self _ 112 _)
  · rw [h, withEntry_client _ _ i hi]
    exact congrArg Client.state (part_client .hold i)

/-- In HOLD with the hold timer running, and after a Hold exit with port 11 still SETTLING. -/
def longHold : State := (part .hold).updCtl (fun c => { c with holdTimer := some 251000000 })
def settled : State :=
  withPort (running.updCtl (fun c => { c with settleWindow := some 13500000 }))
    { state := .settling, exitMark := true }

theorem witness_HoldTimersExpire :
    longHold.op = .hold ∧ longHold.ctl.holdTimer = some 251000000 ∧ running.op ≠ .hold ∧
    running.ctl.settleWindow = none ∧ settled.ctl.settleWindow = some 13500000 ∧
    (settled.seat 11).state = .settling ∧ (settled.seat 11).exitMark = true := by decide +kernel

/-! ### The line -/

/-- A line with carrier present, and one where the part itself drives. -/
def heardLine : State := after .carrierRise running
def drivingLine : State := withSlot heardLine (passengerSlot .sending 0) .busy

theorem witness_CarrierEdgesAndTheStuckLine :
    running.op ≠ .inReset ∧ heardLine.line.driving = false ∧ heardLine.line.line = .busy ∧
    heardLine.op ≠ .inReset ∧ running.line.driving = false ∧ running.line.line ≠ .busy ∧
    State.reset.op = .inReset ∧ drivingLine.line.driving = true ∧ running.line.stuckTimer = none ∧
    heardLine.line.stuckTimer = some (1000000 + 625000) := by decide +kernel

/-- A line in GAP, its timer due 25 ticks on, with a slot and a control queue as given. -/
def gapLine (x : Option Slot) (q : List CtrlRec) : State :=
  running.updLine (fun l => { l with line := .gap, gapTimer := some 1000025, slot := x, queue := q })

/-- A line in GAP with one frame for the scheduler to hand over at credit 1. -/
def gapPassenger (st : ClientState) : State :=
  (((gapLine none []).updClient 112 (fun _ =>
    { localOn (.seat 11) with state := st, queue := [upFrame 112 12] })).updSched (fun d => { d with credit := 1 }))

theorem witness_GapExpiryOffersTheLine :
    (gapLine none []).line.gapTimer = some 1000025 ∧
    (gapLine (some (claimSlot .defer 1)) []).line.slot = some (claimSlot .defer 1) ∧
    (claimSlot .defer 1).phase = .defer ∧
    (gapLine (some (claimSlot .backoff 1)) []).line.slot = some (claimSlot .backoff 1) ∧
    (claimSlot .backoff 1).phase ≠ .defer ∧
    ((part .unconfigured).line.slot = none ∧ (part .unconfigured).active = false) ∧
    (gapLine none [.claim tablet 1 .crew]).line.queue = .claim tablet 1 .crew :: [] ∧
    (gapLine none [.claim tablet 1 .crew]).active = true ∧
    ((gapPassenger .localHeld).line.slot = none ∧ (gapPassenger .localHeld).line.queue = [] ∧
      0 < (gapPassenger .localHeld).sched.credit ∧
      ((gapPassenger .localHeld).client 112).queue = upFrame 112 12 :: []) ∧
    (gapLine none []).active = true := by decide +kernel

/-- Row 3 of 6.6 at the end of a gap: entries 40 and 41 have quota left, and the pointer stands at 40. -/
def gapCycle : State := cycleRow3.updLine (fun l => { l with line := .gap, gapTimer := some 1000025 })

theorem gapCycle_queues (j : Fin 256) (h : (gapCycle.client j).queue ≠ []) : j = 40 ∨ j = 41 := by
  refine Classical.byContradiction fun hn => h ?_
  rw [not_or] at hn
  have hc : gapCycle.client j = cycleEntries.client j := rfl
  by_cases h5 : j = 5
  · subst h5
    decide +kernel
  · rw [hc, cycleEntries, State.updClient_client_ne _ _ _ _ hn.2, State.updClient_client_ne _ _ _ _ hn.1,
      State.updClient_client_ne _ _ _ _ h5, running_client]

/-- Entry 41 is served in the quota phase, before entry 40, where the search would end. -/
theorem witness_Gap_quota : gapCycle.Served .quota 41 ∧ gapCycle.line.queue = [] ∧ 0 < gapCycle.sched.credit ∧
    gapCycle.Candidate .quota 40 := by
  refine ⟨⟨?_, nofun, fun j hj => ?_, fun j hj _ => ?_⟩, rfl, by decide +kernel, ?_⟩
  · unfold State.Candidate
    decide +kernel
  · rcases gapCycle_queues j hj.2.1 with rfl | rfl <;> decide +kernel
  · rcases gapCycle_queues j hj.2.1 with rfl | rfl <;> decide +kernel
  · unfold State.Candidate
    decide +kernel

/-- Where entry 112 alone has frames queued and no quota left, it is served in the spill phase. -/
theorem served_alone (s : State) (only : ∀ j, (s.client j).queue ≠ [] → j = 112)
    (h : s.Candidate .spill 112) (spent : ¬ (s.client 112).used < (s.client 112).quota) :
    s.Served .spill 112 := by
  refine ⟨h, fun _ j hj => ?_, fun j hj => ?_, fun j hj _ => ?_⟩ <;> obtain rfl := only j hj.2.1
  · exact spent (hj.2.2.2 rfl)
  · exact .inr ⟨rfl, Nat.le_refl _⟩
  · exact Nat.le_refl _

/-- Entry 112, without quota, is served in the spill phase at a credit of 1; LEAVING, it empties. -/
theorem witness_Gap_spill (st : ClientState) (h : st = .localHeld ∨ st = .leaving) :
    (gapPassenger st).Served .spill 112 := by
  have entry (j : Fin 256) : (gapPassenger st).client j = (State.updClient (gapLine none []) 112
      (fun _ => { localOn (.seat 11) with state := st, queue := [upFrame 112 12] })).client j := rfl
  refine served_alone _ (fun j hj => Classical.byContradiction fun hn => hj ?_) ?_ ?_
  · rw [entry, State.updClient_client_ne _ _ _ _ hn]
    exact congrArg Client.queue (running_client j)
  · unfold State.Candidate
    rcases h with rfl | rfl <;> decide +kernel
  · rw [entry, State.updClient_client_self]
    exact Nat.lt_irrefl 0

/-- Nothing to select, and entries to select without credit. -/
theorem witness_Gap_nothing : (∀ i, ¬ (gapLine none []).Candidate .spill i) ∧
    (gapCycle.updSched (fun d => { d with credit := 0 })).sched.credit ≤ 0 ∧
    (gapCycle.updSched (fun d => { d with credit := 0 })).Candidate .spill 41 := by
  refine ⟨fun i hi => hi.2.1 (congrArg Client.queue (running_client i)), by decide +kernel, ?_⟩
  unfold State.Candidate
  decide +kernel

theorem witness_CollisionBacksOffOrDiscards :
    running.line.driving = false ∧
    (withSlot running (passengerSlot .sending 10) .busy).line.slot = some (passengerSlot .sending 10) ∧
    (withSlot running (passengerSlot .sending 10) .busy).op ≠ .hold ∧
    (passengerSlot .sending 10).attempts < 11 ∧ 11 ≤ (passengerSlot .sending 11).attempts ∧
    (withSlot running (passengerSlot .sending 11) .busy).line.line = .busy ∧
    (withSlot (part .hold) (passengerSlot .sending 0) .busy).op = .hold ∧
    (withSlot running (claimSlot .sending 11) .busy).line.slot = some (claimSlot .sending 11) ∧
    (∀ rec, (claimSlot .sending 10).content ≠ .passenger rec) := by
  and_intros <;> first | decide +kernel | nofun

theorem witness_CompletionEmptiesTheSlot :
    (withSlot running (claimSlot .sending 0) .busy).line.slot = some (claimSlot .sending 0) ∧
    (claimSlot .sending 0).phase = .sending ∧ (withSlot running (claimSlot .sending 0) .busy).line.line = .busy ∧
    (withSlot running (claimSlot .sending 0) .busy).line.carrier = false := by decide +kernel

/-- A frame in BACKOFF with its timer running, on a line as given. -/
def backoffOn (l : LineState) : State :=
  (withSlot running (claimSlot .backoff 1) l).updLine (fun y => { y with backoffTimer := some 1000125 })

theorem witness_BackoffExpiryRetriesOrDefers :
    running.line.backoffTimer = none ∧ (backoffOn .idle).line.backoffTimer = some 1000125 ∧
    (backoffOn .idle).line.slot = some (claimSlot .backoff 1) ∧ (backoffOn .idle).line.line = .idle ∧
    (backoffOn .gap).line.backoffTimer = some 1000125 ∧ (backoffOn .gap).line.line ≠ .idle := by
  decide +kernel

theorem witness_SendingStartsOnAnIdleLine :
    exec .gapTimerExpiry (gapLine none [.claim tablet 1 .crew]) =
      .next (after .gapTimerExpiry (gapLine none [.claim tablet 1 .crew])) ∧
    (gapLine none [.claim tablet 1 .crew]).line.driving = false ∧
    (after .gapTimerExpiry (gapLine none [.claim tablet 1 .crew])).line.driving = true :=
  ⟨rfl, by decide +kernel, by decide +kernel⟩

/-! ### Line frames -/

theorem witness_SentFramesAreReadBack :
    1 ≤ running.cfg.station ∧ running.cfg.station ≤ 4094 ∧ 18 ≠ running.cfg.station ∧
    running.cfg.gateway ≤ 4094 ∧ isGroupAddr tablet = false ∧
    64 ≤ (seatFrame 0x020000000001 tablet).length ∧ (seatFrame 0x020000000001 tablet).length ≤ 1522 := by
  decide +kernel

/-- A full slot for each clause: a passenger frame of 64 and of 1522 bytes, the largest TALLY, a CLAIM and a
RELEASE. -/
theorem witness_SentFrames_slots :
    let slot (c : Content) : Slot := { phase := .sending, seq := 255, attempts := 0, content := c }
    let frame (n : Nat) : UplinkRec :=
      { frame := { blocks := [0], data := List.replicate n 0 }, cls := .openNet, owner := 112 }
    (slot (.passenger (frame 64))).content = .passenger (frame 64) ∧ (List.replicate 64 (0 : Byte)).length = 64 ∧
    (slot (.passenger (frame 1522))).content = .passenger (frame 1522) ∧
    (List.replicate 1522 (0 : Byte)).length = 1522 ∧
    (slot (.control (.tally 65535 3840 65535 200 true true 256))).content =
      .control (.tally 65535 3840 65535 200 true true 256) ∧
    (slot (.control (.claim tablet 255 .openNet))).content = .control (.claim tablet 255 .openNet) ∧
    (slot (.control (.release tablet 255 65535 4094))).content =
      .control (.release tablet 255 65535 4094) ∧ isGroupAddr tablet = false := by
  exact ⟨rfl, List.length_replicate, rfl, List.length_replicate, rfl, rfl, rfl, rfl⟩

/-- Frames at the checks of R2: of 11 bytes, with a bad check, of the wrong length, from origin 0 and
4095, from the own station, and of kinds 0 and 5. -/
theorem witness_ArrivalChecksDiscardInOrder :
    (List.replicate 11 (0 : Byte)).length < 12 ∧ (List.replicate 12 (0 : Byte)).length = 12 ∧
    checkPasses (List.replicate 12 0) = false ∧ running.line.driving = false ∧ running.active = true ∧
    (part .unconfigured).op = .unconfigured ∧ drivingLine.line.driving = true ∧ State.reset.op = .inReset ∧
    classifyLine (some 17) (lineFrame 3 4095 0 0 (claimBodyOf 1)) = .badOrigin ∧
    classifyLine (some 17) (lineFrame 3 4095 4095 0 (claimBodyOf 1)) = .badOrigin ∧
    classifyLine (some 17) (lineFrame 3 4095 17 0 (claimBodyOf 1)) = .ownOrigin ∧
    classifyLine (some 17) (lineFrame 0 4095 9 0 (claimBodyOf 1)) = .badKind ∧
    classifyLine (some 17) (lineFrame 5 4095 9 0 (claimBodyOf 1)) = .badKind ∧
    classifyLine (some 17) ((fun f => f ++ lineCheck f) (headerBytes
      { kind := 3, dest := 4095, origin := 9, cls := 0, seq := 0, bodyLen := 7 } ++ claimBodyOf 1)) =
      .badLength := by decide +kernel

set_option maxRecDepth 4096 in
/-- Bodies at the ends of the ranges of R4 to R7, and just past them: PASSENGER of 63 bytes, TALLY with W of
3840 and 3841, P of 10, 9, 200 and 201 and 256 and 257 clients, CLAIM of class 3 and 4, RELEASE of a group. -/
theorem witness_ArrivalChecks_bodies :
    let tally (w p n : Nat) := [0, 0] ++ bytesBE 2 w ++ [0, 0] ++ bytesBE 2 p ++ [0, 0] ++ bytesBE 2 n
    let bad (kind : Nat) (body : List Byte) := classifyLine (some 17) (lineFrame kind 4095 9 0 body) = .badBody
    let good (kind : Nat) (body : List Byte) :=
      classifyLine (some 17) (lineFrame kind 4095 9 0 body) ≠ .badBody
    (bad 1 (List.replicate 63 0) ∧ good 1 (List.replicate 64 0)) ∧
    (bad 2 (tally 3841 10 256) ∧ good 2 (tally 3840 10 256)) ∧
    (bad 2 (tally 0 9 0) ∧ bad 2 (tally 0 201 0) ∧ good 2 (tally 0 200 0) ∧ bad 2 (tally 0 10 257)) ∧
    (bad 3 (addrBytes tablet ++ [1, 4]) ∧ good 3 (addrBytes tablet ++ [1, 3])) ∧
    bad 4 (addrBytes group ++ [1, 0, 0, 0]) ∧ good 4 (addrBytes tablet ++ [1, 0, 0, 0]) := by
  and_intros <;> decide +kernel

/-- A TALLY of station 9, and a peer entry of it. -/
def tallyFrame (seq : Byte) : List Byte := lineFrame 2 4095 9 seq tallyBodyOf
def peer9 : Peer :=
  { station := 9, period := 50, lastSeq := 40, d := 1, w := 1, a := 1, clients := 1, hold := false
    conflict := false, due := 5000000, lost := 0 }
def withPeers (l : List Peer) : State := running.updTally (fun y => { y with peers := l })

theorem receives_tally (seq : Byte) (h : seq = 40 ∨ seq = 41) (l : List Peer) :
    (withPeers l).Receives (tallyFrame seq)
      { kind := 2, dest := 4095, origin := 9, cls := 0, seq := seq, bodyLen := 12 } (.tally tallyOf) := by
  refine ⟨rfl, rfl, ?_⟩
  rcases h with rfl | rfl
  · show classifyLine (some running.cfg.station) _ = _
    decide +kernel
  · show classifyLine (some running.cfg.station) _ = _
    decide +kernel

theorem witness_TallyFromAKnownPeer :
    (9 : Nat) ≠ running.cfg.gateway ∧
    (withPeers [peer9]).tally.peers.find? (·.station == 9) = some peer9 ∧ (40 : Byte) = peer9.lastSeq ∧
    (41 : Byte) ≠ peer9.lastSeq := by decide +kernel

/-- The expiry of station 9's entry waits, raised at its time, when the TALLY is taken. -/
def expiring : State :=
  { withPeers [{ peer9 with due := 1000000 }] with pending := [.peerExpiry 9], raised := [.peerExpiry 9] }

/-- Of a TALLY and the expiry together, tally first: the expiry does not happen (R25). -/
theorem test_overtaken_expiry :
    let s := after (.lineFrameArrival (tallyFrame 41)) expiring
    (s.tally.peers.map (·.due)) = [1000000 + 3 * 100 * 12500] ∧ s.raised = [.peerExpiry 9] ∧
    (after (.peerExpiry 9) s).tally.peers = s.tally.peers ∧ (after (.peerExpiry 9) s).now = s.now ∧
    (after (.peerExpiry 9) s).raised = [] := by decide +kernel

/-- Taken first, the expiry removes the entry. -/
theorem test_expiry_first : (after (.peerExpiry 9) expiring).tally.peers = [] := by decide +kernel

theorem witness_overtaken_expiry :
    isExpiry (.peerExpiry 9) ∧ .peerExpiry 9 ∈ expiring.raised ∧ expiring.Due (.peerExpiry 9) ∧
    ¬ State.Due (withPeers [peer9]) (.peerExpiry 9) ∧ expiring.Timely (.peerExpiry 9) 1000000 ∧
    (withPeers [peer9]).now < peer9.due := by
  refine ⟨trivial, by decide, ⟨_, .head _, rfl, by decide +kernel⟩, ?_, fun _ => by decide +kernel,
    by decide +kernel⟩
  rintro ⟨q, hq, -, h⟩
  obtain rfl := List.mem_singleton.1 hq
  exact absurd h (by decide +kernel)

/-- Thirty-one peers, none of them station 9. -/
def fullPeers : List Peer := (List.range 31).map (fun k => { peer9 with station := 20 + k })

theorem witness_PeersJoinAndExpire :
    (withPeers []).tally.peers.find? (·.station == 9) = none ∧ (withPeers []).tally.peers.length < 31 ∧
    (withPeers fullPeers).tally.peers.find? (·.station == 9) = none ∧
    (withPeers fullPeers).tally.peers.length = 31 ∧
    (withPeers (fullPeers.take 30)).tally.peers.length = 30 ∧
    (withPeers fullPeers).tally.peers.Pairwise (fun p q => p.station < q.station) ∧
    (∀ q ∈ (withPeers []).tally.peers, q.station ≠ 9) := by decide +kernel

/-- The header of a CLAIM or RELEASE. -/
def header (kind dest origin len : Nat) : Header :=
  { kind := kind, dest := dest, origin := origin, cls := 0, seq := 0, bodyLen := len }

/-- A part with the tablet's entry in a state, on port 11, with a CLAIM of its own numbered 47. -/
def holding (st : ClientState) : State :=
  withEntry running { localOn (.seat 11) with state := st, claimNum := 47 }

theorem receives_claim (st : ClientState) (origin : Nat) (h : origin = 16 ∨ origin = 18) :
    (holding st).Receives (lineFrame 3 4095 origin 0 (claimBodyOf 62)) (header 3 4095 origin 8)
      (.claim tablet 62) := by
  refine ⟨rfl, rfl, ?_⟩
  rcases h with rfl | rfl
  · show classifyLine (some running.cfg.station) _ = _
    decide +kernel
  · show classifyLine (some running.cfg.station) _ = _
    decide +kernel

theorem witness_ClaimGivesTheEntryUp :
    (holding .localHeld).lookup tablet = some 112 ∧ ((holding .localHeld).client 112).state = .localHeld ∧
    ((holding .leaving).client 112).state = .leaving ∧ (holding .leaving).lookup tablet = some 112 ∧
    ((holding .probation).client 112).state = .probation ∧ (holding .probation).cfg.station < 18 := by
  decide +kernel

theorem witness_ClaimIsCounteredOrIgnored :
    (holding .free).lookup tablet = none ∧ (holding .moved).lookup tablet = some 112 ∧
    ((holding .moved).client 112).state = .moved ∧ (holding .probation).lookup tablet = some 112 ∧
    16 < (holding .probation).cfg.station ∧ (holding .probation).line.queue = [] ∧
    ((holding .probation).updLine (fun l => { l with queue := [.claim tablet 47 .crew] })).line.queue =
      [.claim tablet 47 .crew] := by decide +kernel

theorem witness_ReleaseMatchesAClaim (dest : Nat) (h : dest = 17 ∨ dest = 18) :
    (holding .probation).Receives (lineFrame 4 dest 9 0 (releaseBodyOf 47)) (header 4 dest 9 10)
      (.release tablet 47 2) ∧
    (holding .probation).cfg.station = 17 ∧ (holding .probation).lookup tablet = some 112 ∧
    ((holding .probation).client 112).claimNum = 47 ∧ (holding .moved).lookup tablet = some 112 := by
  refine ⟨⟨rfl, rfl, ?_⟩, by decide +kernel⟩
  rcases h with rfl | rfl
  · show classifyLine (some running.cfg.station) _ = _
    decide +kernel
  · show classifyLine (some running.cfg.station) _ = _
    decide +kernel

/-! ### Downlink -/

/-- A PASSENGER frame from the gateway for a destination. -/
def downFrame (dst : Addr) : List Byte := lineFrame 1 4095 1 0 (seatFrame dst 0x020000000001)

set_option maxRecDepth 4096 in
theorem reads_downFrame (dst : Addr) (h : dst = tablet ∨ dst = group) :
    classifyLine (some 17) (downFrame dst) =
      .good (header 1 4095 1 64) (.passenger (seatFrame dst 0x020000000001)) := by
  rcases h with rfl | rfl <;> decide +kernel

/-- The parts below receive it: each is RUNNING as station 17, and does not drive the line. -/
theorem receives_downFrame (dst : Addr) (h : dst = tablet ∨ dst = group) (s : State) (ha : s.active = true)
    (hd : s.line.driving = false) (hs : s.cfg.station = 17) :
    s.Receives (downFrame dst) (header 1 4095 1 64) (.passenger (seatFrame dst 0x020000000001)) :=
  ⟨ha, hd, hs ▸ reads_downFrame dst h⟩

theorem witness_UnicastDropsAreCounted :
    (header 1 4095 1 64).origin = running.cfg.gateway ∧ addrAt (seatFrame tablet 1) 0 = tablet ∧
    tablet.getLsbD 40 = false ∧ running.lookup tablet = none ∧
    (holding .leaving).lookup tablet = some 112 ∧ ((holding .leaving).client 112).state = .leaving ∧
    ((holding .moved).client 112).state = .moved ∧ ((holding .localHeld).client 112).state = .localHeld ∧
    ((holding .localHeld).client 112).attach = .seat 11 ∧ ((holding .localHeld).seat 11).state ≠ .up ∧
    ((withEntry running (localOn (.radio 2))).client 112).attach = .radio 2 ∧
    ((withEntry running (localOn (.radio 2))).radio 2).state ≠ .up := by decide +kernel

/-- An egress position of `b` blocks, and the queue that holds it alone. -/
def position (b : Nat) : EgressPos :=
  .unicast { frame := { blocks := List.replicate b 2000, data := [] }, cls := .standard, dest := 112
             tenancy := 7, attach := .seat 11 }
def egress (b : Nat) : List EgressPos := [position b]

/-- The tablet in LOCAL on port 11 in UP, whose egress limit is 48, with `b` blocks queued. -/
def seatClient (b : Nat) (tx : SeatTx) : State :=
  withPort (holding .localHeld) { upPort with tx := tx, queue := if b = 0 then [] else egress b }

/-- The same with an empty DOWNLINK pool. -/
def drained (s : State) : State := s.updMem (fun m => { m with downlinkFree := [] })

theorem witness_UnicastIsQueuedToASeat :
    (seatClient 0 .idle).active = true ∧ (seatClient 0 .idle).line.driving = false ∧
    (seatClient 0 .idle).cfg.station = 17 ∧ (seatClient 0 .idle).lookup tablet = some 112 ∧
    ((seatClient 0 .idle).client 112).state = .localHeld ∧
    ((seatClient 0 .idle).client 112).attach = .seat 11 ∧ ((seatClient 0 .idle).seat 11).state = .up ∧
    (seatFrame tablet 1).length = 64 ∧
    (seatClient 0 .idle).cfg.seatEgressLimit < queueBlocks ((seatClient 48 .idle).seat 11).queue + 1 ∧
    queueBlocks ((seatClient 47 .delivering).seat 11).queue + 1 ≤ (seatClient 0 .idle).cfg.seatEgressLimit ∧
    (drained (seatClient 0 .idle)).mem.downlinkFree.length < 1 ∧
    1 ≤ (seatClient 0 .idle).mem.downlinkFree.length ∧ ((seatClient 0 .idle).seat 11).tx = .idle ∧
    ((seatClient 0 .idle).seat 11).queue = [] ∧ ((seatClient 0 .idle).seat 11).link = true ∧
    ((seatClient 47 .delivering).seat 11).tx ≠ .idle := by decide +kernel

/-- The tablet on radio 2 in UP, whose egress limit is 192, with `b` blocks queued, a load and a class. -/
def radioClient (b load : Nat) (k : PClass) (tx : RadioTx) : State :=
  withRadio (withEntry running { localOn (.radio 2) with cls := k })
    { upRadio with tx := tx, load := load, queue := if b = 0 then [] else egress b }

theorem witness_UnicastIsQueuedToARadio :
    (radioClient 0 12 .openNet .idle).active = true ∧
    (radioClient 0 12 .openNet .idle).lookup tablet = some 112 ∧
    (12 ≤ ((radioClient 0 12 .openNet .idle).radio 2).load ∧
      ((radioClient 0 12 .openNet .idle).client 112).cls = .openNet) ∧
    ¬ (12 ≤ ((radioClient 0 11 .openNet .idle).radio 2).load) ∧
    ((radioClient 0 12 .standard .idle).client 112).cls ≠ .openNet ∧
    ((radioClient 0 12 .standard .idle).radio 2).state = .up ∧
    (radioClient 192 0 .crew .idle).cfg.radioEgressLimit <
      queueBlocks ((radioClient 192 0 .crew .idle).radio 2).queue + 1 ∧
    queueBlocks ((radioClient 191 0 .crew .sendingData).radio 2).queue + 1 ≤
      (radioClient 191 0 .crew .sendingData).cfg.radioEgressLimit ∧
    ((radioClient 191 0 .crew .sendingData).radio 2).tx ≠ .idle ∧
    ((radioClient 0 0 .crew .idle).radio 2).queue = [] ∧ ((radioClient 0 0 .crew .idle).radio 2).drops = [] ∧
    0 < ((radioClient 0 0 .crew .idle).radio 2).credit ∧
    (drained (radioClient 0 0 .crew .idle)).mem.downlinkFree.length < 1 := by decide +kernel

/-- Port 11 and radio 2 in UP and at work, and the group's flag set or clear. -/
def fanOutPart (filter : BitVec 256) : State :=
  { withRadio (seatClient 1 .delivering) { upRadio with tx := .sendingData, queue := egress 1 } with
    filter := filter }

theorem witness_GroupFrameIsStoredOnce :
    (addrAt (seatFrame group 1) 0).getLsbD 40 = true ∧
    (fanOutPart 0).filter.getLsbD 1 = false ∧ (fanOutPart 2).filter.getLsbD 1 = true ∧
    (fanOutPart 2).active = true ∧ (fanOutPart 2).line.driving = false ∧
    (drained (fanOutPart 2)).mem.downlinkFree.length < 1 ∧ 1 ≤ (fanOutPart 2).mem.downlinkFree.length ∧
    ((List.finRange 32).filter (fun p => ((fanOutPart 2).seat p).state = .up ∧
      queueBlocks ((fanOutPart 2).seat p).queue + 1 ≤ (fanOutPart 2).cfg.seatEgressLimit)) = [11] ∧
    ((fanOutPart 2).seat 11).tx ≠ .idle ∧ ((fanOutPart 2).radio 2).tx ≠ .idle ∧
    ((fanOutPart 2).radio 2).state = .up ∧ ((fanOutPart 2).radio 2).load < 12 ∧
    (∀ p, (running.seat p).state ≠ .up) ∧ (∀ r, (running.radio r).state ≠ .up) := by decide +kernel

/-- The same with both transmit sides idle and their queues empty. -/
theorem witness_Group_idle :
    let s : State := { withRadio (seatClient 0 .idle) upRadio with filter := 2 }
    (s.seat 11).tx = .idle ∧ (s.seat 11).link = true ∧ (s.seat 11).pendingPause = none ∧
    (s.seat 11).rxPause = none ∧ (s.seat 11).queue = [] ∧ (s.radio 2).tx = .idle ∧
    (s.radio 2).drops = [] ∧ 0 < (s.radio 2).credit ∧ (s.radio 2).queue = [] ∧
    s.filter.getLsbD 1 = true := by decide +kernel

/-! ### The own cycle -/

theorem witness_AllotmentBounds :
    ([⟨5000, 120⟩, ⟨150, 40⟩] : List Share).length ≤ 32 ∧ 312 ≤ 20000 / 64 := by decide

theorem witness_OwnCycleTakesTheMeasure :
    running.active = true ∧ running.tally.cycleTimer = some (1000000 + 500 * 12500) ∧
    running.op = .running ∧ running.tally.conflict = .normal ∧
    (after .ownCycleExpiry running).tally.conflict = .normal ∧
    longHold.active = true ∧ longHold.op = .hold ∧
    (longHold.updTally (fun y => { y with cycleTimer := some 7 })).tally.cycleTimer = some 7 := by decide +kernel

/-- The conflict state at its three places: with a report, at the third clean expiry, at the fourth. -/
theorem witness_conflict_recovery :
    let c (mark : Bool) (clean : Nat) : State :=
      running.updTally (fun y => { y with conflict := .conflict, reportMark := mark, clean := clean })
    (c true 2).tally.reportMark = true ∧ (c false 2).tally.clean < 3 ∧ 3 ≤ (c false 3).tally.clean ∧
    (c false 3).tally.conflict = .conflict ∧ (c false 3).active = true ∧
    (c false 3).tally.cycleTimer = some 7250000 ∧
    (after .ownCycleExpiry (c false 2)).tally.conflict = .conflict := by decide +kernel

/-- A busy line gives no opportunity; the control queue holds a TALLY, or 7 or 8 CLAIMs. -/
def queued (q : List CtrlRec) : State := running.updLine (fun l => { l with line := .busy, queue := q })

theorem witness_OwnCyclePostsAndPublishes :
    let old : CtrlRec := .tally 1 2 3 50 false false 4
    let c : CtrlRec := .claim tablet 1 .crew
    (queued [c, old, c]).active = true ∧ (queued [c, old, c]).tally.cycleTimer = some 7250000 ∧
    (queued [c, old, c]).opportunity = false ∧ (queued [c, old, c]).line.queue = [c] ++ old :: [c] ∧
    old.isTally = true ∧ (∀ r ∈ [c], r.isTally = false) ∧
    (queued (List.replicate 7 c)).line.queue.length < 8 ∧ 8 ≤ (queued (List.replicate 8 c)).line.queue.length ∧
    (∀ r ∈ (queued (List.replicate 8 c)).line.queue, r.isTally = false) ∧
    running.line.queue = [] ∧ running.line.slot = none ∧ running.line.line = .idle := by decide +kernel

/-! ### Seat ports -/

/-- A MAC control frame of an opcode and a time. -/
def macFrame (opcode time : Byte) : List Byte :=
  let front := [0x01, 0x80, 0xC2, 0x00, 0x00, 0x01] ++ addrBytes tablet ++
    [0x88, 0x08, 0x00, opcode, 0x00, time] ++ List.replicate 42 0
  front ++ frameFcs front

set_option maxRecDepth 4096 in
theorem witness_SeatFramesThatAreNotLookedUp :
    ((part .hold).seat 11).state = .held ∧ (running.seat 11).state = .absent ∧
    ((withPort running { upPort with bad := 30 }).seat 11).state = .up ∧
    ((withPort running { upPort with bad := 30 }).seat 11).bad < 31 ∧
    31 ≤ ((withPort running { upPort with bad := 31 }).seat 11).bad ∧
    (List.replicate 63 (0 : Byte)).length < 64 ∧ 1522 < (List.replicate 1523 (0 : Byte)).length ∧
    classifySeat (macFrame 2 0) = .control ∧ classifySeat (macFrame 1 0) = .pause 0 ∧
    classifySeat (macFrame 1 1) = .pause 1 ∧ ((seatClient 1 .delivering).seat 11).tx ≠ .idle := by
  decide +kernel

set_option maxRecDepth 4096 in
theorem reads_seatFrame : classifySeat (seatFrame 0x020000000001 tablet) = .passenger tablet := by
  decide +kernel

/-- The tablet in LOCAL on port 11 in UP with `n` blocks queued, of a limit of 64. -/
def filling (n : Nat) : State :=
  withPort (withEntry running { localOn (.seat 11) with queue := [upFrame 112 n] }) upPort

theorem witness_SeatFrameOfAClientIsQueued :
    ((filling 63).seat 11).state = .up ∧ isGroupAddr tablet = false ∧ (filling 63).lookup tablet = some 112 ∧
    ((filling 63).client 112).state = .localHeld ∧ ((filling 63).client 112).attach = .seat 11 ∧
    0 < (filling 63).cfg.priority ((filling 63).client 112).cls ∧
    (filling 64).cfg.uplinkLimit < ((filling 64).client 112).blocks + 1 ∧
    ((filling 63).client 112).blocks + 1 ≤ (filling 63).cfg.uplinkLimit ∧
    ((filling 63).updMem (fun m => { m with uplinkFree := [] })).mem.uplinkFree.length < 1 ∧
    1 ≤ (filling 63).mem.uplinkFree.length ∧
    ((filling 63).updLine (fun l => { l with line := .busy })).opportunity = false := by decide +kernel

set_option maxRecDepth 4096 in
/-- The pause levels at a limit of 64, H of 48 and L of 32, on either side: a frame that brings the one client
of port 11 to 47 or 48 blocks with PAUSING clear, and to 31 or 32 with it set. -/
theorem witness_pause_levels :
    let s (n : Nat) (on : Bool) :=
      ((filling n).updLine (fun l => { l with line := .busy })).updSeat 11 (fun q => { q with pausing := on })
    let blocks (n : Nat) (on : Bool) :=
      ((after (.seatFrameArrival 11 (seatFrame 0x020000000001 tablet)) (s n on)).client 112).blocks
    (∀ j, j ≠ 112 → ((filling 47).client j).state = .free) ∧ (filling 47).cfg.uplinkLimit = 64 ∧
    blocks 46 false = 47 ∧ blocks 47 false = 48 ∧ blocks 30 true = 31 ∧ blocks 31 true = 32 :=
  ⟨fun j hj => congrArg Client.state ((withEntry_client _ _ j hj).trans (running_client j)),
    by decide +kernel⟩

/-- A barred class, a control record waiting, no credit, and an idle line with credit. -/
theorem witness_SeatFrame_opportunity :
    ((filling 1).updCtl (fun c => { c with
      settings := { c.settings with priorities := Vector.replicate 4 0 } })).cfg.priority .standard = 0 ∧
    (filling 0).opportunity = true ∧ (filling 0).line.queue = [] ∧ 0 < (filling 0).sched.credit ∧
    ((filling 0).updSched (fun d => { d with credit := 0 })).sched.credit ≤ 0 ∧
    ((filling 0).updLine (fun l => { l with queue := [.claim tablet 47 .crew] })).line.queue ≠ [] := by
  decide +kernel

/-- The part with one frame queued for the tablet alone, the tablet is served. -/
theorem witness_SeatFrame_served : (filling 1).Served .spill 112 ∧ ((filling 1).client 112).queue = [upFrame 112 1] := by
  refine ⟨served_alone _ (fun j hj => Classical.byContradiction fun hn => hj ?_) ?_ ?_, by decide +kernel⟩
  · exact congrArg Client.queue ((withEntry_client _ _ j hn).trans (running_client j))
  · unfold State.Candidate
    decide +kernel
  · decide +kernel

set_option maxRecDepth 4096 in
/-- With the line IDLE and nothing else waiting, the frame just queued goes to the slot at once (R10). -/
theorem test_frame_goes_out :
    let s := after (.seatFrameArrival 11 (seatFrame 0x020000000001 tablet))
      (withPort (withEntry running (localOn (.seat 11))) upPort)
    s.line.slot.map (·.content) = some (.passenger { frame :=
      { blocks := [0], data := seatFrame 0x020000000001 tablet }, cls := .standard, owner := 112 }) ∧
    (s.client 112).queue = [] ∧ s.sched.credit = 127 ∧ s.line.line = .busy := by decide +kernel

/-- Port 11 in UP with no client, and with the lowest way of the tablet's bucket taken by another. -/
def freshPort : State := withPort running upPort
def otherClient : State :=
  freshPort.updClient 112 (fun _ => { addr := 0x021A3C0045BF, state := .localHeld, attach := .seat 11 })

theorem witness_SeatFrameAdmitsANewClient :
    (freshPort.seat 11).state = .up ∧ freshPort.lookup tablet = none ∧ freshPort.atLimit 11 = false ∧
    112 ∈ waysOf tablet ∧ (freshPort.client 112).state = .free ∧
    (∀ j ∈ waysOf tablet, j.val < 112 → (freshPort.client j).state ≠ .free) ∧
    otherClient.lookup tablet = none ∧ otherClient.atLimit 11 = false ∧ (otherClient.client 113).state = .free ∧
    (∀ j ∈ waysOf tablet, j.val < 113 → (otherClient.client j).state ≠ .free) := by decide +kernel

/-- Two clients on port 11, which is its limit; and a full bucket. -/
def limitPort : State :=
  otherClient.updClient 5 (fun _ => { addr := 5, state := .localHeld, attach := .seat 11 })
def fullBucket : State :=
  [112, 113, 114, 115].foldl (fun s i => s.updClient i (fun _ => { addr := 1, state := .moved })) freshPort

set_option maxRecDepth 4096 in
theorem witness_SeatFrameIsRefused :
    (limitPort.seat 11).state = .up ∧ (limitPort.seat 11).unadmitted < 15 ∧
    ¬ ((withPort fullBucket { upPort with unadmitted := 15 }).seat 11).unadmitted < 15 ∧
    classifySeat (seatFrame 0x020000000001 group) = .passenger group ∧ isGroupAddr group = true ∧
    limitPort.atLimit 11 = true ∧ limitPort.lookup tablet = none ∧
    fullBucket.atLimit 11 = false ∧ fullBucket.lookup tablet = none ∧
    (∀ j ∈ waysOf tablet, (fullBucket.client j).state ≠ .free) ∧
    ((withEntry limitPort (localOn (.radio 2))).client 112).attach ≠ .seat 11 ∧
    (withEntry limitPort { localOn (.seat 11) with state := .leaving }).lookup tablet = some 112 := by
  decide +kernel

theorem witness_SeatFrameMovesOrReturnsAClient :
    let moving := withPort (withEntry (queued []) (localOn (.radio 2))) upPort
    let returning := withPort (withEntry (queued []) { localOn (.seat 11) with state := .leaving }) upPort
    (moving.seat 11).state = .up ∧ moving.lookup tablet = some 112 ∧ moving.atLimit 11 = false ∧
    moving.opportunity = false ∧ (moving.client 112).state = .localHeld ∧
    (moving.client 112).attach ≠ .seat 11 ∧ returning.lookup tablet = some 112 ∧
    returning.opportunity = false ∧ returning.atLimit 11 = false ∧
    (returning.client 112).state = .leaving := by decide +kernel

theorem witness_PresenceScanReadsEveryPort :
    State.reset.active = false ∧ running.active = true ∧ (running.seat 11).state = .absent ∧
    .presenceScan ∈ ({ running with raised := [.presenceScan] } : State).raised ∧
    running.scanTimer = some (running.now + 250000) ∧
    (running.seat 11).link = false ∧
    ((withPort running { state := .settling, reading := 2, link := true }).seat 11).reading = 2 ∧
    ((withPort running { upPort with reading := 2, link := false }).seat 11).state = .up := by decide +kernel

theorem witness_SeatTimersExpire :
    let pausing (tx : SeatTx) := withPort running
      { upPort with pausing := true, refreshTimer := some 1000100, rxPause := some 1000200, tx := tx
                    queue := egress 1 }
    ((pausing .idle).seat 11).faultWindow = some 9000000 ∧
    ((withPort running { state := .quiet, quietTimer := some 2 }).seat 11).quietTimer = some 2 ∧
    ((pausing .idle).seat 11).refreshTimer = some 1000100 ∧ ((pausing .idle).seat 11).tx = .idle ∧
    ((pausing .delivering).seat 11).tx ≠ .idle ∧ ((pausing .idle).seat 11).rxPause = some 1000200 ∧
    ((pausing .idle).seat 11).pendingPause = none ∧ ((pausing .idle).seat 11).link = true ∧
    (withPort (holding .localHeld) { upPort with queue := egress 1 }).stale (position 1) = false := by
  decide +kernel

/-- A position whose tenancy is not that of the tablet's entry, and one of class OPEN. -/
def stalePosition : EgressPos :=
  .unicast { frame := { blocks := [2001], data := [] }, cls := .standard, dest := 112, tenancy := 6
             attach := .seat 11 }
def openPosition : EgressPos :=
  .unicast { frame := { blocks := [2001], data := [] }, cls := .openNet, dest := 112, tenancy := 7
             attach := .seat 11 }

/-- Heads that fail the dequeue checks, and one that passes. -/
theorem witness_dequeue_checks :
    let s := holding .localHeld
    s.stale stalePosition = true ∧ s.stale (position 1) = false ∧ s.stale openPosition = false ∧
    openPosition.degradable = true ∧ (position 1).degradable = false ∧ stalePosition.degradable = false ∧
    ((withPort s { upPort with tx := .delivering, queue := [position 1, stalePosition, position 1] }).seat
      11).queue = position 1 :: ([stalePosition] ++ [position 1]) ∧
    ((withRadio s { upRadio with load := 12, queue := [openPosition, stalePosition, position 1] }).radio
      2).queue = [openPosition, stalePosition] ++ [position 1] ∧
    12 ≤ ((withRadio s { upRadio with load := 12 }).radio 2).load ∧
    0 < ((withRadio s { upRadio with load := 12 }).radio 2).credit := by decide +kernel

theorem witness_SeatTransmitSideEnds :
    let q := withPort running { upPort with tx := .sendingPause 5, queue := [] }
    let i := withPort running { upPort with link := false, pendingPause := some 5 }
    ((seatClient 1 .delivering).seat 11).tx = .delivering ∧
    ((seatClient 1 .delivering).seat 11).queue = [position 1] ∧
    ((seatClient 1 .delivering).seat 11).pendingPause = none ∧ (q.seat 11).tx = .sendingPause 5 ∧
    (q.seat 11).queue = [] ∧ (i.seat 11).tx = .idle ∧ (i.seat 11).state = .up ∧
    (i.seat 11).pendingPause = some 5 ∧ (running.seat 11).state ≠ .up ∧ (running.seat 11).tx = .idle := by
  decide +kernel

/-! ### Reclaims -/

/-- The tablet in MOVED with a count in a flap window opened at tick 1000, port 11 and radio 2 in UP. -/
def movedAway (count : Nat) : State :=
  withRadio (withPort (withEntry running { localOn (.radio 2) with
    state := .moved, timer := some 1000005, flapCount := count, flapStart := some 1000 }) upPort) upRadio

theorem witness_ReclaimAndFlapHold :
    ((movedAway 2).seat 11).state = .up ∧ (movedAway 2).lookup tablet = some 112 ∧
    ((movedAway 2).client 112).state = .moved ∧ (movedAway 2).windowOpen 112 = true ∧
    ((movedAway 2).client 112).flapCount < 3 ∧ (movedAway 2).atLimit 11 = false ∧
    3 ≤ ((movedAway 3).client 112).flapCount ∧ (movedAway 3).windowOpen 112 = true ∧
    ((movedAway 3).client 112).timer = some 1000005 ∧ ((movedAway 3).client 112).flapStart = some 1000 ∧
    ({ movedAway 3 with now := 125001000 } : State).windowOpen 112 = false ∧
    (withEntry limitPort { localOn (.seat 11) with state := .moved }).lookup tablet = some 112 ∧
    ((withEntry limitPort { localOn (.seat 11) with state := .moved }).updClient 6 (fun _ =>
      { addr := 6, state := .localHeld, attach := .seat 11 })).atLimit 11 = true := by decide +kernel

theorem takes_join : (movedAway 2).RadioTakes 2 (radioMessageBytes 3 (addrBytes tablet ++ [1, 0]))
    (.join tablet 1) := ⟨by decide +kernel, by decide +kernel⟩

/-! ### Radio links -/

theorem witness_StatusBringsTheLinkUp :
    let s := withRadio running { state := .down, signal := true, sent := 51, taken := 50 }
    (s.radio 2).state = .down ∧ (s.radio 2).signal = true ∧
    parseRadio (radioMessageBytes 2 [2, 0, 0, 64, 0, 3]) = some (.status 2 64 3) := by decide +kernel

/-- STATUS messages at the ends of their ranges: load 15 and 16, B of 0, 1, 1024 and 1025. -/
theorem witness_RadioMessagesAndStatus :
    ((part .hold).radio 2).state = .held ∧ (running.radio 2).state = .down ∧
    (freshPort.updRadio 2 (fun _ => upRadio) |>.radio 2).state = .up ∧
    parseRadio (radioMessageBytes 2 [15, 0, 4, 0, 0, 0]) = some (.status 15 1024 0) ∧
    parseRadio (radioMessageBytes 2 [0, 0, 0, 1, 0, 0]) = some (.status 0 1 0) ∧
    parseRadio (radioMessageBytes 2 [16, 0, 0, 1, 0, 0]) = none ∧
    parseRadio (radioMessageBytes 2 [0, 0, 4, 1, 0, 0]) = none ∧
    parseRadio (radioMessageBytes 2 [0, 0, 0, 0, 0, 0]) = none ∧
    parseRadio (radioMessageBytes 4 (addrBytes tablet ++ [3, 0])) = none ∧
    ((withRadio running { upRadio with drops := [tablet], queue := egress 1 }).radio 2).drops = [tablet] ∧
    ((withRadio running { upRadio with queue := egress 1 }).radio 2).queue = [position 1] := by
  decide +kernel

/-- The tablet on radio 2 in UP with `n` blocks queued, of a limit of 64. -/
def radioFilling (n : Nat) : State :=
  withRadio (withEntry running { localOn (.radio 2) with queue := [upFrame 112 n] }) upRadio

set_option maxRecDepth 4096 in
theorem witness_RadioDataIsQueued :
    parseRadio (radioMessageBytes 1 (seatFrame 0x020000000001 tablet)) =
      some (.data (seatFrame 0x020000000001 tablet)) ∧
    ((radioFilling 63).radio 2).state = .up ∧ addrAt (seatFrame 0x020000000001 tablet) 6 = tablet ∧
    (radioFilling 63).lookup tablet = some 112 ∧ ((radioFilling 63).client 112).state.present = true ∧
    ((radioFilling 63).client 112).attach = .radio 2 ∧
    ((radioFilling 63).client 112).blocks + 1 ≤ (radioFilling 63).cfg.uplinkLimit ∧
    (radioFilling 64).cfg.uplinkLimit < ((radioFilling 64).client 112).blocks + 1 ∧
    0 < (radioFilling 63).cfg.priority ((radioFilling 63).client 112).cls ∧
    1 ≤ (radioFilling 63).mem.uplinkFree.length ∧ (holding .localHeld).lookup tablet = some 112 ∧
    ((holding .localHeld).client 112).attach ≠ .radio 2 := by decide +kernel

theorem witness_JoinsAndLeaves :
    (withRadio running upRadio).lookup tablet = none ∧ ((withRadio running upRadio).client 112).state = .free ∧
    (∀ j ∈ waysOf tablet, (fullBucket.client j).state ≠ .free) ∧ fullBucket.lookup tablet = none ∧
    ((radioFilling 1).client 112).attach = .radio 2 ∧
    ((withRadio (holding .localHeld) upRadio).client 112).attach ≠ .radio 2 ∧
    ((withRadio (holding .leaving) upRadio).client 112).state = .leaving ∧
    parseRadio (radioMessageBytes 4 (addrBytes tablet ++ [1, 0])) = some (.leave tablet false) ∧
    parseRadio (radioMessageBytes 4 (addrBytes tablet ++ [2, 0])) = some (.leave tablet true) := by
  decide +kernel

theorem witness_RadioLinkGoesDown :
    ((radioFilling 1).radio 2).state = .up ∧ ((radioFilling 1).radio 2).liveness = some 9000000 ∧
    ((radioClient 1 0 .crew .sendingData).radio 2).tx = .sendingData ∧
    ((withRadio running { upRadio with tx := .sendingDrop tablet }).radio 2).tx = .sendingDrop tablet ∧
    ((radioFilling 1).radio 2).tx = .idle := by decide +kernel

theorem witness_RadioTransmitSideEnds :
    let s := withRadio running { upRadio with
      tx := .sendingData, drops := [tablet], queue := egress 1 ++ egress 2 }
    let d := withRadio running { upRadio with tx := .sendingDrop tablet }
    (s.radio 2).tx = .sendingData ∧ (s.radio 2).drops = tablet :: [] ∧
    (s.radio 2).queue = position 1 :: egress 2 ∧ (d.radio 2).tx = .sendingDrop tablet ∧
    (d.radio 2).drops = [] ∧ (d.radio 2).queue = [] ∧
    (holding .localHeld).stale (position 2) = false ∧
    ({ buffer := 64, sent := 64, taken := 0 } : RadioLink).credit = 0 ∧
    ({ buffer := 64, sent := 65, taken := 0 } : RadioLink).outstanding = 65 := by decide +kernel

/-! ### Client timers -/

theorem witness_ClientTimersExpire :
    let e (st : ClientState) (j : Option (Fin 6 × Fin 4)) := withRadio (withEntry running
      { localOn (.seat 11) with state := st, timer := some 1000007, pendingJoin := j }) upRadio
    ((e .probation none).client 112).state = .probation ∧
    ((e .probation none).client 112).timer = some 1000007 ∧ ((e .leaving none).client 112).state = .leaving ∧
    ((e .localHeld none).client 112).state = .localHeld ∧ (e .localHeld none).op = .running ∧
    ((e .moved none).client 112).state = .moved ∧ ((e .moved none).client 112).queue = [] ∧
    ((e .moved (some (2, 1))).client 112).pendingJoin = some (2, 1) ∧
    ((e .moved (some (2, 1))).radio 2).state = .up ∧ ((e .moved (some (3, 1))).radio 3).state ≠ .up := by
  decide +kernel

/-- A LEAVING client of port 11 in PAUSING beside another client there, of `n` blocks: 31 is below L, 32 not. -/
def pausingPort (n : Nat) : State :=
  (withPort (withEntry running { localOn (.seat 11) with state := .leaving, timer := some 1000007 })
    { upPort with pausing := true }).updClient 5 (fun _ =>
      { addr := 5, state := .localHeld, attach := .seat 11, queue := [upFrame 5 n] })

theorem witness_pause_release :
    ((pausingPort 31).client 112).state = .leaving ∧ ((pausingPort 31).client 112).attach = .seat 11 ∧
    ((pausingPort 31).seat 11).state = .up ∧ ((pausingPort 31).seat 11).pausing = true ∧
    ((pausingPort 31).client 5).state = .localHeld ∧ ((pausingPort 31).client 5).attach = .seat 11 ∧
    ((pausingPort 31).client 5).blocks = 31 ∧ ((pausingPort 32).client 5).blocks = 32 := by decide +kernel

theorem witness_pause_others (n : Nat) (j : Fin 256) (h112 : j ≠ 112) (h5 : j ≠ 5) :
    ((pausingPort n).client j).state = .free := by
  rw [pausingPort, State.updClient_client_ne _ _ _ _ h5]
  exact congrArg Client.state ((withEntry_client _ _ j h112).trans (running_client j))

/-! ### Management -/

theorem witness_TransactionsAreTakenOrRejected :
    (0x11 : Byte).toNat < 0x12 ∧ 0x12 ≤ (0x12 : Byte).toNat ∧ answersNotReady .start ∧ (part .starting).op = .starting ∧ (part .loading).op = .loading ∧
    running.op ≠ .inReset ∧ State.reset.op = .inReset :=
  ⟨by decide, by decide, trivial, rfl, rfl, nofun, rfl⟩

theorem witness_ReadingsReturnTheState :
    running.TakesCommands ∧ (256 : Word).toNat = 256 ∧ (255 : Word).toNat = (255 : Fin 256).val ∧
    (withPeers [peer9]).tally.peers[(0 : Word).toNat]? = some peer9 ∧
    (withPeers [peer9]).tally.peers.length ≤ (1 : Word).toNat ∧ running.notices = [] ∧
    (running.postNotice (.peerJoined 9)).notices = .peerJoined 9 :: [] :=
  ⟨.inr (.inl rfl), by decide +kernel⟩

theorem witness_AlertsAreReadAndMasked :
    running.TakesCommands ∧ (running.raiseAlert Alert.PORT_QUIET).Asserts Alert.PORT_QUIET ∧
    (running.raiseAlert Alert.PORT_QUIET).TakesCommands ∧ (∀ a, ¬ running.Asserts a) ∧
    State.reset.op = .inReset := by
  refine ⟨.inr (.inl rfl), ⟨by decide +kernel, by decide +kernel, by decide +kernel⟩, .inr (.inl rfl), ?_, rfl⟩
  have h : ∀ a, (running.alert a).pending = false := by decide +kernel
  rintro a ⟨ha, -, -⟩
  rw [h a] at ha
  cases ha

/-- Of two sources of one priority, the lower number asserts first. -/
theorem witness_alert_tie :
    let s := (running.raiseAlert Alert.PORT_QUIET).raiseAlert Alert.HOLD_CHANGE
    (s.alert Alert.PORT_QUIET).priority = (s.alert Alert.HOLD_CHANGE).priority ∧
    (after .readAlert s).response = [0, 8, 1] := by decide +kernel

theorem witness_CommandsThatSet :
    running.TakesCommands ∧ (part .unconfigured).TakesCommands ∧ (12 : Word).toNat = 12 ∧
    (11 : Word).toNat = (11 : AlertNo).val ∧ (80 : Word).toNat = 80 ∧ (79 : Word).toNat < 80 ∧
    ((running.raiseAlert 11).alert 11).count.toNat = (1 : Word).toNat ∧
    (0 : Word).toNat ≠ ((running.raiseAlert 11).alert 11).count.toNat ∧
    (part .unconfigured).op = .unconfigured ∧ running.op ≠ .unconfigured :=
  ⟨.inr (.inl rfl), .inl rfl, by decide +kernel⟩

theorem witness_PromoteAndEvict :
    let busyLine (st : ClientState) := withEntry (queued []) { localOn (.radio 2) with
      state := st, queue := [upFrame 112 1] }
    let noPriority := (busyLine .localHeld).updCtl (fun c => { c with
      settings := { c.settings with priorities := Vector.replicate 4 0 } })
    (112 : Word).toNat = (112 : Fin 256).val ∧ (3 : Word).toNat = PClass.openNet.num.val ∧
    (7 : Word).toNat = ((busyLine .localHeld).client 112).tenancy.toNat ∧
    ((busyLine .localHeld).client 112).state.present = true ∧ (busyLine .localHeld).opportunity = false ∧
    ((busyLine .localHeld).client 112).cls ≠ .openNet ∧ 0 < (busyLine .localHeld).cfg.priority .openNet ∧
    noPriority.cfg.priority .openNet = 0 ∧ (noPriority.client 112).queue ≠ [] ∧
    ((busyLine .moved).client 112).state.present = false ∧ ((busyLine .leaving).client 112).state = .leaving ∧
    8 ≤ ((withRadio running { upRadio with drops := List.replicate 8 1 }).radio 2).drops.length ∧
    ((withRadio running { upRadio with tx := .sendingData, drops := List.replicate 7 1 }).radio 2).drops.length < 8 := by
  decide +kernel

/-! ### Laws: a part in RUNNING, not the state after reset, meets every one of them -/

theorem running_all_free (i : Fin 256) : (running.client i).state = .free :=
  congrArg Client.state (running_client i)

theorem running_queues_empty :
    running.queuedBlocks = [] ∧ running.line.uplinkBlocks = [] ∧ running.positions = [] := by
  decide +kernel

/-- The settings of the test image are in their ranges. -/
theorem running_cfg_lawful : running.cfg.Lawful := by
  constructor <;> first | decide +kernel | (intro k; cases k <;> decide +kernel)

theorem witness_StepKeepsSettingsAndPeersLawful : running.SettingsLawful ∧ running.PeersLawful := by
  constructor
  · exact { ranges := running_cfg_lawful, stations := by decide +kernel, armed := nofun }
  · constructor <;> decide +kernel

theorem witness_StepKeepsLineLawful : running.Bounded ∧ running.LineLawful := by
  constructor
  · constructor <;> decide +kernel
  · exact { gap := by decide +kernel, stuck := nofun, carrier := nofun, backoff := ⟨nofun, nofun⟩, slot := nofun }

theorem witness_StepKeepsLinksLawful : running.LinksLawful := by
  constructor <;> decide +kernel

theorem running_clients_have_no_frames (i : Fin 256) : (running.client i).queue = [] :=
  congrArg Client.queue (running_client i)

theorem running_mem : running.mem = PacketMem.split running.cfg.uplinkDepth := rfl

theorem witness_StepKeepsUplinkLawful : running.UplinkLawful := by
  refine ⟨fun i _ => running_clients_have_no_frames i, fun i rec h => ?_, ?_, by decide +kernel, nofun⟩
  · rw [running_clients_have_no_frames i] at h
    cases h
  · rw [running_queues_empty.1, running_queues_empty.2.1, List.append_nil, List.append_nil, running_mem]
    generalize running.cfg.uplinkDepth = u
    exact List.Perm.refl _

theorem witness_StepKeepsDownlinkLawful : running.DownlinkLawful := by
  have hp := running_queues_empty.2.2
  refine ⟨nofun, fun f h => ?_, ⟨fun p f => ?_, fun r f => ?_⟩, fun pos h => ?_, ?_, nofun⟩
  · rw [hp] at h
    cases h
  · have h : ∀ p, (running.seat p).queue = [] := by decide +kernel
    rw [h p]
    exact Nat.zero_le 1
  · have h : ∀ r, (running.radio r).queue = [] := by decide +kernel
    rw [h r]
    exact Nat.zero_le 1
  · rw [hp] at h
    cases h
  · rw [hp, running_mem]
    generalize running.cfg.uplinkDepth = u
    show (_ ++ [] ++ []).Perm _
    rw [List.append_nil, List.append_nil]
    exact List.Perm.refl _

theorem witness_StepKeepsTableAndCreditLawful : running.TableLawful ∧ running.CreditLawful := by
  have fresh := running_client
  constructor
  · constructor
    · exact fun i h => absurd (running_all_free i) h
    · exact fun i _ h => absurd (running_all_free i) h
    all_goals
      intro i
      rw [fresh i]
      decide
  · constructor
    · decide +kernel
    · decide +kernel
    · intro i
      rw [fresh i]
      decide
    · intro i rec h
      rw [fresh i] at h
      cases h

theorem witness_ResetHoldsTheStartCondition :
    ({ running with pending := [.resetPin] } : State).op = .running ∧
    step { running with pending := [.resetPin] } = .next (after .resetPin running) ∧
    (after .resetPin running).op = .inReset ∧ State.reset.line.stuckTimer = none := ⟨rfl, rfl, rfl, rfl⟩

end Sys2Proof.Tests
end

section
/-!
SUPPORT. What a posted CLAIM or RELEASE does at the line interface (R10, R11, R18), and what a received frame
comes to.
-/

namespace Sys2Proof.Machine

/-! ## Counters between two states -/

theorem counted_count (s : State) (c : Counter) (n : Nat) : Counted s (s.count c n) c n := by
  rw [Counted, State.count_counter, if_pos rfl]

/-- A later count of another counter leaves what was counted. -/
theorem Counted.count_other {s t : State} {c d : Counter} {n m : Nat} (h : Counted s t c n) (hcd : c ≠ d) :
    Counted s (t.count d m) c n := by
  rw [Counted, State.count_counter, if_neg hcd]
  exact h

/-- An earlier count of another counter leaves what was counted. -/
theorem Counted.of_count_other {s t : State} {c d : Counter} {n m : Nat} (h : Counted (s.count d m) t c n)
    (hcd : c ≠ d) : Counted s t c n := by
  rwa [Counted, State.count_counter, if_neg hcd] at h

/-! ## Placing a CLAIM or RELEASE (R18) -/

/-- A control queue with a record placed in it is never empty: a queue that refuses the record is full. -/
theorem LineIf.withRecord_ne_nil (l : LineIf) (r : CtrlRec) : l.withRecord r ≠ [] := by
  unfold LineIf.withRecord
  split
  · simp
  · next full =>
    intro empty
    rw [empty] at full
    exact full (by decide)

/-- Placing a CLAIM or RELEASE changes the control queue and the counters alone. -/
theorem State.placeControl_eq (s : State) (r : CtrlRec) :
    s.placeControl r = { s with
      line := { s.line with queue := s.line.withRecord r }, counters := (s.placeControl r).counters } := by
  unfold State.placeControl LineIf.withRecord
  split <;> rfl

/-- Of the counters, placing a CLAIM or RELEASE can raise LINE_CONTROL_DROPPED alone. -/
theorem State.placeControl_counter (s : State) (r : CtrlRec) (c : Counter)
    (hc : c ≠ Ctr.LINE_CONTROL_DROPPED) : (s.placeControl r).counters[c] = s.counters[c] := by
  unfold State.placeControl
  split
  · rfl
  · rw [State.count_counter, if_neg hc]

/-! ## A look for a frame with a control record waiting (R10, R11) -/

theorem State.opportunity_iff (s : State) :
    s.opportunity = true ↔ s.line.slot = none ∧ s.line.line = .idle ∧ s.active = true := by
  simp [State.opportunity, and_assoc]

/-- Taking a frame advances the send sequence of its own kind alone. -/
theorem LineIf.take_seqOf (l : LineIf) (c : Content) (now : Nat) (k : FrameKind) :
    (l.take c now).seqOf k = if k = c.kind then l.seqOf k + 1 else l.seqOf k := by
  unfold LineIf.take
  generalize c.kind = own
  cases own <;> cases k <;> rfl

/-- Taking a frame leaves the control queue as it is. -/
theorem LineIf.take_queue (l : LineIf) (c : Content) (now : Nat) : (l.take c now).queue = l.queue := by
  unfold LineIf.take
  cases c.kind <;> rfl

/-- What a look for a frame does with a control record waiting: nothing without a send opportunity, and with
one it takes the oldest record. The scheduler is not asked. -/
theorem State.sendOpportunity_of_waiting (s : State) (hq : s.line.queue ≠ []) :
    (s.opportunity = false ∧ s.sendOpportunity = s) ∨
    ∃ r rest, s.opportunity = true ∧ s.line.queue = r :: rest ∧
      s.sendOpportunity = s.updLine (fun l => { l with queue := rest }.take (.control r) s.now) := by
  rcases s.sendOpportunity_cases with no | takes | ⟨-, empty, -⟩ | ⟨-, -, empty, -⟩
  · exact .inl no
  · exact .inr takes
  · exact absurd empty hq
  · exact absurd empty hq

/-- With a control record waiting, a look for a frame changes the line interface alone. -/
theorem State.sendOpportunity_eq_of_waiting (s : State) (hq : s.line.queue ≠ []) :
    s.sendOpportunity = { s with line := s.sendOpportunity.line } := by
  rcases s.sendOpportunity_of_waiting hq with ⟨-, same⟩ | ⟨r, rest, -, -, taken⟩
  · rw [same]
  · rw [taken]
    rfl

/-- With a control record waiting, a look for a frame sends the oldest one. -/
theorem State.sendOpportunity_sent (s : State) (hq : s.line.queue ≠ []) :
    Sent s s.sendOpportunity s.line.queue := by
  rcases s.sendOpportunity_of_waiting hq with ⟨no, same⟩ | ⟨r, rest, opportunity, oldest, taken⟩
  · have noOpportunity : ¬ (s.line.slot = none ∧ s.line.line = .idle ∧ s.active = true) := by
      simp [← s.opportunity_iff, no]
    rw [same, Sent, if_neg noOpportunity]
  · rw [taken, Sent, if_pos (s.opportunity_iff.1 opportunity)]
    exact ⟨r, rest, oldest, LineIf.take_queue _ _ _, rfl, rfl, LineIf.take_seqOf _ _ _⟩

/-! ## Posting a CLAIM or RELEASE (R10, R18) -/

theorem State.postControl_of_not_tally (s : State) (r : CtrlRec) (hr : r.isTally = false) :
    s.postControl r = (s.placeControl r).sendOpportunity := by
  rw [State.postControl, hr]
  rfl

/-- After a CLAIM or RELEASE is placed, a record waits. -/
theorem State.placeControl_waiting (s : State) (r : CtrlRec) : (s.placeControl r).line.queue ≠ [] := by
  rw [s.placeControl_eq r]
  exact s.line.withRecord_ne_nil r

/-- Posting a CLAIM or RELEASE changes the line interface and the counters alone. -/
theorem State.postControl_eq (s : State) (r : CtrlRec) (hr : r.isTally = false) :
    s.postControl r = { s with
      line := (s.postControl r).line, counters := (s.postControl r).counters } := by
  rw [s.postControl_of_not_tally r hr, State.sendOpportunity_eq_of_waiting _ (s.placeControl_waiting r),
    s.placeControl_eq r]

/-- A posted CLAIM or RELEASE is offered to the line. -/
theorem State.postControl_offered (s : State) (r : CtrlRec) (hr : r.isTally = false) :
    Offered s (s.postControl r) r := by
  have sent := (s.placeControl r).sendOpportunity_sent (s.placeControl_waiting r)
  rw [← s.postControl_of_not_tally r hr] at sent
  generalize s.postControl r = t at sent ⊢
  rw [s.placeControl_eq r] at sent
  exact sent

/-- An earlier count leaves what was offered. -/
theorem Offered.of_count {s t : State} {c : Counter} {n : Nat} {r : CtrlRec}
    (h : Offered (s.count c n) t r) : Offered s t r := h

/-- Posting a CLAIM or RELEASE counts nothing but LINE_CONTROL_DROPPED. -/
theorem State.postControl_counter (s : State) (r : CtrlRec) (hr : r.isTally = false) (c : Counter)
    (hc : c ≠ Ctr.LINE_CONTROL_DROPPED) : (s.postControl r).counters[c] = s.counters[c] := by
  rw [s.postControl_of_not_tally r hr, State.sendOpportunity_eq_of_waiting _ (s.placeControl_waiting r)]
  exact s.placeControl_counter r c hc

/-! ## The arrival of a frame that passes every check (R2) -/

theorem State.active_iff (s : State) : s.active = true ↔ s.op = .running ∨ s.op = .hold := by
  simp [State.active]

/-- A frame that reads as good has bytes. -/
theorem ne_nil_of_classifyLine_good {own : Option Nat} {bytes : List Byte} {h : Header} {b : Body}
    (good : classifyLine own bytes = .good h b) : bytes ≠ [] := by
  rintro rfl
  cases good

/-- A frame that passes every check is counted in LINE_RX_FRAMES and passed on by kind. -/
theorem State.Receives.exec_eq {s : State} {bytes : List Byte} {h : Header} {b : Body}
    (hr : s.Receives bytes h b) :
    exec (.lineFrameArrival bytes) s = .next ((s.count Ctr.LINE_RX_FRAMES).passOn h b) := by
  obtain ⟨hactive, hdriving, hgood⟩ := hr
  have hheard : ¬ (s.line.driving = true ∨ bytes = []) := by
    simp [hdriving, ne_nil_of_classifyLine_good hgood]
  have harrival : s.lineFrame bytes = s.lineArrival bytes := by
    rw [State.lineFrame, if_neg hheard]
    rcases s.active_iff.1 hactive with hop | hop <;> rw [hop]
  have hpassed : s.lineArrival bytes = (s.count Ctr.LINE_RX_FRAMES).passOn h b := by
    rw [State.lineArrival, hgood]
  exact congrArg Host.Outcome.next (harrival.trans hpassed)

end Sys2Proof.Machine
end

section
/-!
SUPPORT. The claim protocol's answer to a CLAIM (R73, R77, R78), with the statement on the counter-claim.
-/

namespace Sys2Proof.Machine

/-! ## Lookup and the CLAIMs that wait -/

/-- An entry that a lookup finds holds the address (R48). -/
theorem State.addr_of_lookup {s : State} {a : Addr} {i : Fin 256} (h : s.lookup a = some i) :
    (s.client i).addr = a := by
  have found := List.find?_some h
  simp only [Bool.and_eq_true, beq_iff_eq] at found
  exact found.2

theorem CtrlRec.isClaimFor_iff (a : Addr) (r : CtrlRec) :
    r.isClaimFor a = true ↔ ∃ num cls, r = .claim a num cls := by
  cases r with
  | claim b num cls => simp [CtrlRec.isClaimFor, eq_comm (a := a) (b := b)]
  | tally => simp [CtrlRec.isClaimFor]
  | release => simp [CtrlRec.isClaimFor]

/-! ## Posting a CLAIM (R71) -/

/-- The state with the claim sequence advanced, entry `i` given the new number, and the CLAIM counted: what
`State.postClaim` leaves to the control queue (`State.postClaim_eq`). -/
def State.numbered (s : State) (i : Fin 256) : State :=
  (({ s with claimSeq := s.claimSeq + 1 }).updClient i
    (fun c => { c with claimNum := s.claimSeq + 1 })).count Ctr.CLAIM_POSTED

theorem State.postClaim_eq (s : State) (i : Fin 256) :
    s.postClaim i =
      (s.numbered i).postControl (.claim (s.client i).addr (s.claimSeq + 1) (s.client i).cls) := by
  have entry : (s.numbered i).client i = { s.client i with claimNum := s.claimSeq + 1 } :=
    ({ s with claimSeq := s.claimSeq + 1 } : State).updClient_client_self i
      (fun c => { c with claimNum := s.claimSeq + 1 })
  change (s.numbered i).postControl
    (.claim ((s.numbered i).client i).addr _ ((s.numbered i).client i).cls) = _
  rw [entry]

/-- Posting a CLAIM changes the claim sequence, the entry's claim number, the line interface and the counters
alone. -/
theorem State.postClaim_frame (s : State) (i : Fin 256) :
    s.postClaim i = { s with
      line := (s.postClaim i).line, counters := (s.postClaim i).counters, claimSeq := s.claimSeq + 1
      clients := s.clients.set i { s.client i with claimNum := s.claimSeq + 1 } } := by
  rw [s.postClaim_eq i, State.postControl_eq _ _ rfl]
  rfl

theorem State.postClaim_offered (s : State) (i : Fin 256) :
    Offered s (s.postClaim i) (.claim (s.client i).addr (s.claimSeq + 1) (s.client i).cls) := by
  rw [s.postClaim_eq i]
  exact (s.numbered i).postControl_offered _ rfl

theorem State.postClaim_counted (s : State) (i : Fin 256) : Counted s (s.postClaim i) Ctr.CLAIM_POSTED := by
  rw [Counted, s.postClaim_eq i, State.postControl_counter _ _ rfl _ (by decide)]
  exact counted_count s Ctr.CLAIM_POSTED 1

/-- Posting a CLAIM counts nothing but CLAIM_POSTED and LINE_CONTROL_DROPPED. -/
theorem Counted.postClaim_other {s t : State} {c : Counter} {n : Nat} (h : Counted s t c n) (i : Fin 256)
    (hc : c ≠ Ctr.CLAIM_POSTED) (hd : c ≠ Ctr.LINE_CONTROL_DROPPED) : Counted s (t.postClaim i) c n := by
  rw [Counted, t.postClaim_eq i, State.postControl_counter _ _ rfl c hd]
  exact h.count_other hc

/-! ## The answer to a CLAIM (R73) -/

/-- A CLAIM that finds no entry, or one in MOVED, is ignored (R78). -/
theorem State.claimArrival_ignored (s : State) (a : Addr) (num : BitVec 8) (claimant : Nat)
    (h : s.lookup a = none ∨ ∃ i, s.lookup a = some i ∧ (s.client i).state = .moved) :
    s.claimArrival a num claimant = (s.count Ctr.CLAIM_RX).count Ctr.CLAIM_RX_IGNORED := by
  have lookup_counted : (s.count Ctr.CLAIM_RX).lookup a = s.lookup a := rfl
  rw [State.claimArrival]
  rcases h with noEntry | ⟨i, found, moved⟩
  · simp only [lookup_counted, noEntry]
  · simp only [lookup_counted, found, State.count_client, moved]

/-- A CLAIM for an entry in PROBATION from a station that is not higher is countered (R77). -/
theorem State.claimArrival_countered (s : State) (a : Addr) (num : BitVec 8) (claimant : Nat) (i : Fin 256)
    (found : s.lookup a = some i) (probation : (s.client i).state = .probation)
    (lower : claimant ≤ s.cfg.station) :
    s.claimArrival a num claimant = (s.count Ctr.CLAIM_RX).counterClaim i := by
  have lookup_counted : (s.count Ctr.CLAIM_RX).lookup a = some i := found
  rw [State.claimArrival]
  simp only [lookup_counted, State.count_client, probation]
  exact if_neg (Nat.not_lt.2 lower)

/-- With a CLAIM for the entry's address waiting, the counter-claim is suppressed (R77). -/
theorem State.counterClaim_suppressed (s : State) (i : Fin 256)
    (waits : ∃ r ∈ s.line.queue, ∃ n k, r = .claim (s.client i).addr n k) :
    s.counterClaim i = s.count Ctr.CLAIM_COUNTER_SUPPRESSED := by
  have anyWaits : s.line.queue.any (CtrlRec.isClaimFor (s.client i).addr) = true := by
    simpa only [List.any_eq_true, CtrlRec.isClaimFor_iff] using waits
  rw [State.counterClaim, if_pos anyWaits]

/-- With no CLAIM for the entry's address waiting, the counter-claim is posted (R77). -/
theorem State.counterClaim_posted (s : State) (i : Fin 256)
    (noneWaits : ∀ r ∈ s.line.queue, ∀ n k, r ≠ .claim (s.client i).addr n k) :
    s.counterClaim i = (s.count Ctr.CLAIM_COUNTER).postClaim i := by
  have anyWaits : ¬ s.line.queue.any (CtrlRec.isClaimFor (s.client i).addr) = true := by
    simp only [List.any_eq_true, CtrlRec.isClaimFor_iff]
    rintro ⟨r, mem, n, k, claim⟩
    exact noneWaits r mem n k claim
  rw [State.counterClaim, if_neg anyWaits]

/-- A CLAIM for this station or all comes to the claim protocol's answer. -/
theorem State.Receives.exec_claim {s : State} {bytes : List Byte} {h : Header} {a : Addr} {num : BitVec 8}
    (hr : s.Receives bytes h (.claim a num)) (dest : h.dest = s.cfg.station ∨ h.dest = 4095) :
    exec (.lineFrameArrival bytes) s =
      .next ((s.count Ctr.LINE_RX_FRAMES).claimArrival a num h.origin) := by
  rw [hr.exec_eq]
  exact congrArg Host.Outcome.next (if_pos dest)

/-- A received CLAIM is counted as such, beside its frame. -/
theorem counted_claimRx (s : State) :
    Counted s ((s.count Ctr.LINE_RX_FRAMES).count Ctr.CLAIM_RX) Ctr.CLAIM_RX :=
  (counted_count _ _ _).of_count_other (by decide)

/-- The counter of the answer, after the counts of the received CLAIM. -/
theorem counted_afterClaimRx (s : State) (c : Counter) (hf : c ≠ Ctr.LINE_RX_FRAMES)
    (hx : c ≠ Ctr.CLAIM_RX) :
    Counted s (((s.count Ctr.LINE_RX_FRAMES).count Ctr.CLAIM_RX).count c) c :=
  ((counted_count _ _ _).of_count_other hx).of_count_other hf

/-! ## The statement -/

/-- Settles O22: a received CLAIM comes to `State.claimArrival`, whose two answers here are the ignored CLAIM
and the counter-claim, suppressed or posted. -/
theorem claimIsCounteredOrIgnored : Obligations.ClaimIsCounteredOrIgnored := by
  intro s bytes h a num hr dest
  rw [hr.exec_claim dest]
  refine ⟨fun ignored => ?ignored, fun i found probation lower => ?countered⟩
  case ignored =>
    rw [State.claimArrival_ignored (s.count Ctr.LINE_RX_FRAMES) a num h.origin ignored]
    exact ⟨_, rfl, rfl, (counted_claimRx s).count_other (by decide),
      counted_afterClaimRx s _ (by decide) (by decide)⟩
  case countered =>
    rw [State.claimArrival_countered (s.count Ctr.LINE_RX_FRAMES) a num h.origin i found probation
      (Nat.le_of_lt lower)]
    obtain rfl := State.addr_of_lookup found
    refine ⟨fun waits => ?suppressed, fun noneWaits => ?posted⟩
    case suppressed =>
      rw [State.counterClaim_suppressed ((s.count Ctr.LINE_RX_FRAMES).count Ctr.CLAIM_RX) i waits]
      exact ⟨_, rfl, rfl, (counted_claimRx s).count_other (by decide),
        counted_afterClaimRx s _ (by decide) (by decide)⟩
    case posted =>
      rw [State.counterClaim_posted ((s.count Ctr.LINE_RX_FRAMES).count Ctr.CLAIM_RX) i noneWaits]
      have counterPosted := State.postClaim_counted
        (((s.count Ctr.LINE_RX_FRAMES).count Ctr.CLAIM_RX).count Ctr.CLAIM_COUNTER) i
      exact ⟨_, rfl, State.postClaim_frame _ i, (State.postClaim_offered _ i).of_count.of_count.of_count,
        ((counted_claimRx s).count_other (by decide)).postClaim_other i (by decide) (by decide),
        (counted_afterClaimRx s _ (by decide) (by decide)).postClaim_other i (by decide) (by decide),
        ((counterPosted.of_count_other (by decide)).of_count_other (by decide)).of_count_other (by decide)⟩

end Sys2Proof.Machine
end
